-- ==== Sys2Proof/Word.lean ====
section
/-!
DEFINITION. The value types of the transaction tracker: the fixed widths of R7, the opaque parameter types of R6,
and the enumerated fields whose codes 30_encoding.md gives (R90, R91), with the names of the selector tables (R98).
-/
namespace Sys2Proof

/-- One response beat, 64 bits (R7, R73). -/
abbrev Beat := BitVec 64

/-- The byte mask of a Request, over a 16-byte window (R7, R32). -/
abbrev Mask16 := BitVec 16

/-- The byte mask of a back-end request, one half of `Mask16` (R7, R74). -/
abbrev Mask8 := BitVec 8

/-- The size field of a Request, 3 bits (R32, R93). -/
abbrev SizeCode := BitVec 3

/-- A request address of `PADDR_BITS` bits, kept as the number it is; the bound is the configuration's (R6, R32; log 3). -/
abbrev Addr := Nat

/-- A parameter type of R6, given by how many values it has, `none` for one without end (log 2). Its values are the tokens
0, 1, 2 and so on: the block compares age keys and copies the rest, so a type is no more to it than its values' names. -/
abbrev OpenType := Option Nat

/-- Whether a type has the value that a token names. -/
def hasToken : OpenType → Nat → Bool
  | none, _ => true
  | some k, x => decide (x < k)

/-- A token as a port of the type carries it (log 2, log 3). -/
def cutToken : OpenType → Nat → Nat
  | none, x => x
  | some k, x => x % k

/-- The strict total order `≺` on age keys (R6): that of the numbers (R8), or a free one, of which nothing else is known
(log 2). -/
inductive AgeOrder where
  | numbers
  | free (k : Nat)
deriving DecidableEq, Repr

/-- A program-order age key, a token of the parameter type `AgeKey` (R6; log 2). Its order is `older`. -/
abbrev AgeKey := Nat

/-- The requester identity, a token of the parameter type `Ident` (R6, R32; log 2). -/
abbrev Ident := Nat

/-- Decode-derived restart information, a token of the parameter type `Restart` (R6, R32; log 2). -/
abbrev Restart := Nat

/-- All other instruction metadata, a token of the parameter type `Meta` (R6, R32; log 2). -/
abbrev Meta := Nat

/-- The slot states of R35 and R90: `IDLE`, `REQ`, `RESP`, `WB`. -/
inductive SlotState where
  | idle
  | req
  | resp
  | wb
deriving DecidableEq, Repr

/-- The class codes of R91: `NONE`, `ORD`, `UNORD` and the reserved code `0b11`. -/
inductive Cls where
  | none
  | ord
  | unord
  | rsvd
deriving DecidableEq, Repr, Inhabited

/-- The operation tables of 30_encoding.md (R98): one per kind of component, and the command field of `BEREQ` (R109). -/
inductive Table where
  | ss   -- one per slot (R99)
  | sub  -- one per lane (R100)
  | adm  -- `AS`, one per lane (R101)
  | al   -- one per lane (R102)
  | ar   -- one (R103)
  | rs   -- one (R104)
  | wo   -- one (R105)
  | wu   -- one per unordered port (R105)
  | sz   -- one per slot whose Result is being formed (R106)
  | fo   -- one (R107)
  | rb   -- one (R108)
  | be   -- the `cmd` field of the message of a slot (R109)
deriving DecidableEq, Repr

/-- A component that performs one operation: its table and its index among the components of that table. -/
structure Site where
  table : Table
  idx   : Nat
deriving DecidableEq, Repr

end Sys2Proof
end

