-- ==== Sys2Proof/Config.lean ====
section
/-!
DEFINITION. The implementation parameters of R6 and the constraints on them, the reference configuration of R8,
the derived widths, and the free values that the parameters name.
-/
namespace Sys2Proof

/-- The parameters of R6. `F = N` and `P = M - 1` are derived. -/
structure Config where
  /-- `N`, the number of Transaction Slots. -/
  n         : Nat
  /-- `W`, the number of producer lanes. -/
  w         : Nat
  /-- `M`, the number of writeback ports, one of them ordered. -/
  m         : Nat
  /-- `PADDR_BITS`, the width of a request address. -/
  paddrBits : Nat
  /-- `CMDW`, the width of the back-end command. -/
  cmdW      : Nat
  /-- `CMD_READ`, the value of the back-end read command. -/
  cmdRead   : Nat
  /-- the type `AgeKey` -/
  ages      : OpenType
  /-- the order `≺` on `AgeKey` -/
  ageOrder  : AgeOrder
  /-- the type `Ident` -/
  idents    : OpenType
  /-- the type `Restart` -/
  restarts  : OpenType
  /-- the type `Meta` -/
  metas     : OpenType
deriving DecidableEq, Repr

/-- `P = M - 1`, the number of unordered writeback ports (R6). -/
def Config.p (c : Config) : Nat := c.m - 1

/-- `IDXW = max(1, ceil(log2 N))`, the width of a slot index and of a response tag (R6, R92). -/
def Config.idxW (c : Config) : Nat := max 1 (if c.n ≤ 1 then 0 else Nat.log2 (c.n - 1) + 1)

/-- The constraints of R6 (`N > M >= 2`, `W >= 1`, `PADDR_BITS >= 4`), that no parameter type is empty, and that `CMD_READ`
fits in `CMDW` bits (R94). -/
def Config.ok (c : Config) : Bool :=
  decide (2 ≤ c.n) && decide (1 ≤ c.w) && decide (2 ≤ c.m) && decide (c.m < c.n) && decide (4 ≤ c.paddrBits)
    && hasToken c.ages 0 && hasToken c.idents 0 && hasToken c.restarts 0 && hasToken c.metas 0
    && decide (c.cmdRead < 2 ^ c.cmdW)

/-- The reference configuration of R8 and R94, its opaque types without end. DESIGN CHOICE (log 1): the configuration of the
reset state. -/
def Config.reference : Config :=
  { n := 4, w := 3, m := 3, paddrBits := 16, cmdW := 5, cmdRead := 0, ages := none,
    ageOrder := .numbers, idents := none, restarts := none, metas := none }

/-- FREE VALUE (R195; log 6): the allocation draw of cycle `t` when the script gives none. Nothing is known of it. -/
opaque Config.freeDraw : Nat → List Nat

/-- FREE VALUE (R6; log 2): the rank of an age key in the free order `k`. Nothing is known of it, so `AgeOrder.free` is any
strict total order: every one on tokens is the order of some ranks (`exists_rank`). -/
opaque Config.freeRank : Nat → AgeKey → Rat

end Sys2Proof
end

