-- ==== Sys2Proof/Machine/State.lean ====
section
/-!
DEFINITION. The state of the block (10_state.md R30 to R52), its records (R32 to R34), its interfaces (R49, R50), the marks
(R48), the working fields of a cycle, and the reset state. Plain data throughout.
-/
namespace Sys2Proof.Machine

/-! ## Records -/

/-- A Request, what a slot holds (R32). `cls` is `ord` or `unord` in every Request the block tracks (R91). -/
structure Request where
  addr     : Addr
  mask     : Mask16
  age      : AgeKey
  ident    : Ident
  cls      : Cls
  atomic   : Bool
  size     : SizeCode
  fault    : Bool
  restart  : Restart
  metaInfo : Meta
deriving DecidableEq, Repr, Inhabited

/-- A Candidate: the fields of a Request and the two admission-only bits (R33). `Candidate.toRequest` is `ToRequest`. -/
structure Candidate extends Request where
  hasExc     : Bool
  needReplay : Bool
deriving DecidableEq, Repr, Inhabited

/-- A Result, what a writeback port carries (R34). -/
structure Result where
  req   : Request
  data  : Beat
  fault : Bool
deriving DecidableEq, Repr

/-- One Transaction Slot (R35). -/
structure Slot where
  occ   : Bool
  st    : SlotState
  req   : Request
  rdata : Beat
  rerr  : Bool
  cpend : Bool
deriving DecidableEq, Repr

/-- An age with its valid bit: the flush input and its history (R45, R49), the token and its copy (R46, R49). -/
structure AgeSignal where
  valid : Bool
  age   : AgeKey
deriving DecidableEq, Repr, Inhabited

/-- An admission stage register (R43). -/
structure Stage where
  v : Bool
  c : Candidate
deriving DecidableEq, Repr

/-- The rollback register (R47), and the rollback output (R295). -/
structure Directive where
  v       : Bool
  age     : AgeKey
  restart : Restart
deriving DecidableEq, Repr

/-! ## The architectural state -/

/-- The registers of the block (R30): "Nothing else persists across a cycle boundary". -/
structure Regs where
  /-- the slot array (R35) -/
  slots   : List Slot
  /-- the free pool, one bit per slot index (R40) -/
  pool    : List Bool
  /-- the unordered round-robin pointer (R42) -/
  rrLast  : Nat
  /-- the admission stage registers, one per lane (R43) -/
  s2      : List Stage
  /-- the flush one cycle earlier (R45) -/
  flushD1 : AgeSignal
  /-- the flush two cycles earlier (R45) -/
  flushD2 : AgeSignal
  /-- the token one cycle earlier (R46) -/
  tokD1   : AgeSignal
  /-- the rollback register (R47) -/
  rb      : Directive
deriving DecidableEq, Repr

/-! ## Marks -/

/-- The reasons of a model fault mark (R316, in the order of their codes). -/
inductive FaultReason where
  | illegalResubmit
  | staleResponse
  | ordMulti
  | wbOrdMulti
  | ageTie
  | slotInvariant
deriving DecidableEq, Repr

/-- The reasons of a refusal mark (R317). -/
inductive RefusalReason where
  | badClass
  | badSize
deriving DecidableEq, Repr

/-- `fault_mark`, a set of fault reasons (R48). -/
structure FaultMark where
  illegalResubmit : Bool
  staleResponse   : Bool
  ordMulti        : Bool
  wbOrdMulti      : Bool
  ageTie          : Bool
  slotInvariant   : Bool
deriving DecidableEq, Repr

/-- `refused`, a set of refusal reasons (R48). -/
structure RefusedMark where
  badClass : Bool
  badSize  : Bool
deriving DecidableEq, Repr

/-! ## Interfaces -/

/-- A producer lane's submission (R49). -/
structure Submission where
  valid : Bool
  cand  : Candidate
deriving DecidableEq, Repr, Inhabited

/-- A back-end response (R49, R96). -/
structure Response where
  valid : Bool
  tag   : Nat
  data  : Beat
  err   : Bool
deriving DecidableEq, Repr, Inhabited

/-- The inputs of one cycle (R49), with the cycle's allocation draw (R195; log 6). A lane or port that a list does not
reach has the default of R112. -/
structure Input where
  prod       : List Submission
  flush      : AgeSignal
  tok        : AgeSignal
  beReqReady : Bool
  resp       : Response
  wbOrdReady : Bool
  wbUnReady  : List Bool
  draw       : List Nat
deriving DecidableEq, Repr, Inhabited

/-- Where the inputs of the cycles after the script come from (R49, R139; log 5). -/
inductive Environment where
  /-- every input at its default (R112), the token as it was -/
  | defaults
  /-- the given input vectors over and over, the vector of cycle `t` being number `t` modulo their number: an unending run -/
  | again (line : List Input)
  /-- the free environment `k`: inputs of which nothing is known -/
  | free (k : Nat)
deriving DecidableEq, Repr

/-- A back-end request message (R95, R235). -/
structure BeReq where
  addr   : Addr
  mask8  : Mask8
  cmd    : Nat
  tag    : Nat
  atomic : Bool
deriving DecidableEq, Repr

/-- The retirement acknowledgement of a lane, when valid (R224). -/
structure RobAck where
  age   : AgeKey
  ident : Ident
deriving DecidableEq, Repr

/-- The raw-data side channel of the ordered port, when valid (R261). -/
structure RawWriteback where
  data : Beat
  req  : Request
deriving DecidableEq, Repr

/-- The outputs of one cycle (R50). An output whose `valid` is 0 is `none`: its other fields carry no meaning (log 13). -/
structure Output where
  prodReady  : List Bool
  /-- `enq_ok[w]` is whether the entry holds an index, `enq_idx[w]` the index -/
  enq        : List (Option Nat)
  allocReject : List Bool
  robAck     : List (Option RobAck)
  beReq      : Option BeReq
  respReady  : Bool
  wbOrd      : Option Result
  wbOrdRaw   : Option RawWriteback
  wbUn       : List (Option Result)
  faultOut   : Option Request
  rollback   : Directive
  occupancy  : Nat
  capEmpty   : Bool
deriving DecidableEq, Repr

/-- The combinational values that a phase of a cycle hands to the later ones (R135). The model's own (log 7). -/
structure Wires where
  /-- `enq_req[w]` (R223) -/
  enqReq  : List Bool
  /-- the shaped value of a slot whose Result is being formed (R265) -/
  shaped  : List Beat
  /-- `fire[i]` (R237) -/
  fire    : List Bool
  /-- `resp_hit[i]` (R251) -/
  respHit : List Bool
  /-- `wb_fire[i]` (R275) -/
  wbFire  : List Bool
  /-- `free[i]` (R168) -/
  free    : List Bool
deriving DecidableEq, Repr

/-! ## The state -/

/-- The machine: its parameters, its registers, the marks, and the model's own fields of a cycle (log 5, log 7). -/
structure State where
  /-- the parameters, fixed at elaboration (R6, R51) -/
  cfg       : Config
  /-- the cycle index, read by no rule (R31) -/
  t         : Nat
  /-- the registers at the start of the cycle, `S` of R10 and R11 -/
  regs      : Regs
  /-- the registers' next values, `x'` of R10; the model's own -/
  nxt       : Regs
  /-- the model fault mark (R48) -/
  faultMark : FaultMark
  /-- the refusal mark (R48) -/
  refused   : RefusedMark
  /-- the inputs of the cycle last sampled (R49) -/
  inp       : Input
  /-- the outputs of the cycle last run (R50) -/
  out       : Output
  /-- the phase values of the cycle last run; the model's own -/
  wires     : Wires
  /-- the selectors of the cycle last run, in order (R113); the model's own -/
  trace     : List (Site × Nat)
  /-- the inputs of the coming cycles (R112, R113); the model's own -/
  script    : List Input
  /-- the inputs of the cycles after those; the model's own -/
  env       : Environment
deriving DecidableEq, Repr

/-- FREE VALUE (R137, R139; log 5): the inputs of cycle `t` in the free environment `k`. Nothing is known of them. -/
opaque freeInput : Nat → Nat → Input

/-! ## Stops -/

/-- Why an operation stops. No step reaches any of these: they answer for an operation applied where the spec has none. -/
inductive Fault where
  /-- raised by an operation on a slot that the block does not have (R35: slots 0 to N-1); safe -/
  | noSuchSlot (i : Nat)
  /-- raised by an operation on a lane that the block does not have (R6: lanes 0 to W-1); safe -/
  | noSuchLane (w : Nat)
  /-- raised by an operation on an unordered port that the block does not have (R6: ports 0 to P-1); safe -/
  | noSuchPort (j : Nat)
  /-- raised by an operation whose rule takes the least element of a set that is empty in this state (R9: "a non-empty set
  of naturals"), or a slot or lane that no grant names (R150, R195); its selector is never chosen there; safe -/
  | emptyChoice
deriving DecidableEq, Repr

/-- Why the model gives no meaning. -/
inductive Refusal where
  /-- raised by `exec` for an operation of the table that has no meaning yet; none is left; safe -/
  | notModelled (mnemonic : String)
  /-- raised by a step whose component has a selector that decodes to no operation; no step reaches it, since every selector
  table is total (R98) and no other command than `CMD_READ` is ever sent (R94); safe -/
  | undecodable (x : Site) (w : Nat)
deriving DecidableEq, Repr

/-! ## Reset -/

/-- A Request that no write has given a value. DESIGN CHOICE (log 4): every field zero. -/
def Request.unwritten : Request :=
  { addr := 0, mask := 0, age := 0, ident := 0, cls := .none, atomic := false, size := 0, fault := false, restart := 0,
    metaInfo := 0 }

/-- A Candidate that no write has given a value. DESIGN CHOICE (log 4): every field zero. -/
def Candidate.unwritten : Candidate :=
  { toRequest := Request.unwritten, hasExc := false, needReplay := false }

/-- A slot after reset (R35, R52): empty, in `IDLE`, no cancel pending. DESIGN CHOICE (log 4): the unwritten fields are zero. -/
def Slot.reset : Slot :=
  { occ := false, st := .idle, req := Request.unwritten, rdata := 0, rerr := false, cpend := false }

/-- An age signal after reset (R45, R46, R52): not valid. DESIGN CHOICE (log 4): its age is zero. -/
def AgeSignal.reset : AgeSignal := { valid := false, age := 0 }

/-- A stage register after reset (R43, R52): empty. DESIGN CHOICE (log 4): its candidate is zero. -/
def Stage.reset : Stage := { v := false, c := Candidate.unwritten }

/-- The rollback register after reset (R47, R52): empty. DESIGN CHOICE (log 4): its other fields are zero. -/
def Directive.reset : Directive := { v := false, age := 0, restart := 0 }

/-- The registers after reset (R52): every slot free, every index in the pool, every valid bit 0, `rr_last = 0`. -/
def Regs.reset (c : Config) : Regs :=
  { slots := List.replicate c.n Slot.reset, pool := List.replicate c.n true, rrLast := 0,
    s2 := List.replicate c.w Stage.reset, flushD1 := AgeSignal.reset, flushD2 := AgeSignal.reset,
    tokD1 := AgeSignal.reset, rb := Directive.reset }

/-- The default input of a lane (R112): `prod[w].valid = 0`. DESIGN CHOICE (log 21): R112 gives its candidate no value; it is zero,
the class NONE, which the selector `SUB[w]` shows in the trace (R100). -/
def Submission.idle : Submission := { valid := false, cand := Candidate.unwritten }

/-- The default response input (R112): `resp.valid = 0`. DESIGN CHOICE (log 21): R112 gives its tag, data and error flag no
value; they are zero. The tag shows in the trace, as `RS[0] = awaiting` (R104), and nowhere else. -/
def Response.idle : Response := { valid := false, tag := 0, data := 0, err := false }

/-- The inputs of a cycle that names none (R112): no submission, no flush, no token, no response, every ready 1.
DESIGN CHOICE (log 21): R112 gives the ages of the absent flush and token no value; they are zero. -/
def Input.idle : Input :=
  { prod := [], flush := AgeSignal.reset, tok := AgeSignal.reset, beReqReady := true, resp := Response.idle,
    wbOrdReady := true, wbUnReady := [], draw := [] }

/-- The phase values before any operation of a cycle has run: no request, no handoff, no hit, no acceptance, no free. -/
def Wires.idle (c : Config) : Wires :=
  { enqReq := List.replicate c.w false, shaped := List.replicate c.n 0, fire := List.replicate c.n false,
    respHit := List.replicate c.n false, wbFire := List.replicate c.n false, free := List.replicate c.n false }

/-- The outputs before the first cycle. DESIGN CHOICE (log 13): nothing is driven. -/
def Output.idle (c : Config) : Output :=
  { prodReady := List.replicate c.w false, enq := List.replicate c.w none, allocReject := List.replicate c.w false,
    robAck := List.replicate c.w none, beReq := none, respReady := false, wbOrd := none, wbOrdRaw := none,
    wbUn := List.replicate c.p none, faultOut := none, rollback := Directive.reset, occupancy := 0, capEmpty := false }

/-- The empty fault mark (R48). -/
def FaultMark.empty : FaultMark :=
  { illegalResubmit := false, staleResponse := false, ordMulti := false, wbOrdMulti := false, ageTie := false,
    slotInvariant := false }

/-- The empty refusal mark (R48). -/
def RefusedMark.empty : RefusedMark := { badClass := false, badSize := false }

/-- The reset state of a block of configuration `c` (R52, R340), in a free environment (R139). -/
def State.resetOf (c : Config) : State :=
  { cfg := c, t := 0, regs := Regs.reset c, nxt := Regs.reset c, faultMark := FaultMark.empty, refused := RefusedMark.empty,
    inp := Input.idle, out := Output.idle c, wires := Wires.idle c, trace := [], script := [], env := .free 0 }

/-- The machine right after reset (R52, R340). DESIGN CHOICE (log 1): a block of the reference configuration. -/
def State.reset : State := State.resetOf Config.reference

end Sys2Proof.Machine
end

