-- ==== Sys2Proof/Machine/Operands.lean ====
section
/-!
DEFINITION. Every operand a rule computes from fields (R110): the least and the number of the indices with a property (R9),
the age order, the byte-mask half, the tag, the sub-word selection and its extensions, the round-robin choice, the
writeback partition and the allocation draw; and the input vector a cycle samples, cut to the widths of its ports.
-/
namespace Sys2Proof.Machine

/-! ## Sets of indices (R9) -/

/-- `min { i < n : p i }`, if the set is not empty (R9). -/
def leastBelow (n : Nat) (p : Nat → Bool) : Option Nat := (List.range n).find? p

/-- `#{ i < n : p i }` (R9). -/
def countBelow (n : Nat) (p : Nat → Bool) : Nat := (List.range n).countP p

/-- `OR_i p i` over `i < n` (R230). -/
def anyBelow (n : Nat) (p : Nat → Bool) : Bool := (List.range n).any p

/-! ## Ages -/

/-- The order that ranks give: the lower rank is the older, and of two equal ranks the lower token (log 2). -/
def rankOlder (rank : AgeKey → Rat) (a b : AgeKey) : Bool :=
  decide (rank a < rank b) || (decide (rank a = rank b) && decide (a < b))

/-- `a ≺ b`, strictly older, in the order that is a parameter of the block (R6, R9, R131): that of the numbers (R8), or a
free one (log 2). -/
def older (c : Config) (a b : AgeKey) : Bool :=
  match c.ageOrder with
  | .numbers => decide (a < b)
  | .free k => rankOlder (Config.freeRank k) a b

/-- `hit(a, f)`: `f` is valid and `a` is at or after its age (R131). -/
def hit (c : Config) (a : AgeKey) (f : AgeSignal) : Bool := f.valid && !older c a f.age

/-! ## The forwarded message -/

/-- `Mask8`: the half of the 16-bit mask that address bit 3 chooses (R236). -/
def mask8 (r : Request) : Mask8 := if r.addr.testBit 3 then r.mask.extractLsb' 8 8 else r.mask.extractLsb' 0 8

/-- The tag of a slot, `zext_IDXW(i)`, a number with the value `i` (R92, R110). -/
def tagOf (i : Nat) : Nat := i

/-- `BeReq(g)`, the message for the Request `r` of slot `g` (R235). -/
def beReqOf (c : Config) (g : Nat) (r : Request) : BeReq :=
  { addr := r.addr, mask8 := mask8 r, cmd := c.cmdRead, tag := tagOf g, atomic := r.atomic }

/-! ## Output shaping -/

/-- The sub-word shift `8 * addr[2:0]` (R110, R265). -/
def subShift (addr : Addr) : Nat := 8 * (addr % 8)

/-- `sel(i)`: the captured beat shifted right, zeros coming in (R265, R75). -/
def selected (sl : Slot) : Beat := sl.rdata >>> subShift sl.req.addr

/-- `sext_64(sel[7:0])` (R266). -/
def shapeLb (sel : Beat) : Beat := (sel.extractLsb' 0 8).signExtend 64

/-- `sext_64(sel[15:0])` (R267). -/
def shapeLh (sel : Beat) : Beat := (sel.extractLsb' 0 16).signExtend 64

/-- `sext_64(sel[31:0])` (R268). -/
def shapeLw (sel : Beat) : Beat := (sel.extractLsb' 0 32).signExtend 64

/-- `sel` (R269; the reserved size of R273 too). -/
def shapeLd (sel : Beat) : Beat := sel

/-- `zext_64(sel[7:0])` (R270). -/
def shapeLbu (sel : Beat) : Beat := (sel.extractLsb' 0 8).setWidth 64

/-- `zext_64(sel[15:0])` (R271). -/
def shapeLhu (sel : Beat) : Beat := (sel.extractLsb' 0 16).setWidth 64

/-- `zext_64(sel[31:0])` (R272). -/
def shapeLwu (sel : Beat) : Beat := (sel.extractLsb' 0 32).setWidth 64

/-! ## Round robin and partition -/

/-- `RR(L, r)` over the indices below `n`: the first requester after `L`, else the first of all (R234). -/
def roundRobin (n last : Nat) (r : Nat → Bool) : Option Nat :=
  match leastBelow n fun i => r i && decide (last < i) with
  | some i => some i
  | none => leastBelow n r

/-- The unordered port that serves slot `i`, `i mod P` (R264). -/
def portOf (c : Config) (i : Nat) : Nat := i % c.p

/-! ## The allocation draw (R195; log 6) -/

/-- The free indices in ascending order. -/
def freeList (pool : List Bool) : List Nat := (List.range pool.length).filter fun i => pool.getD i false

/-- The order in which a draw takes the elements of a list: the draw's numbers choose, each modulo what is left; a draw that
has ended chooses the first. `k` bounds the length. -/
def drawOrder : Nat → List Nat → List Nat → List Nat
  | 0, _, _ => []
  | _ + 1, _, [] => []
  | k + 1, draw, x :: xs =>
    let d := draw.headD 0 % (xs.length + 1)
    (x :: xs).getD d x :: drawOrder k draw.tail ((x :: xs).eraseIdx d)

/-- `pick(pool, k)` under a draw: an index of the pool, another for another `k` (R195). The empty draw is the reference
draw, lowest index first. -/
def pick (draw : List Nat) (pool : List Bool) (k : Nat) : Option Nat :=
  (drawOrder (freeList pool).length draw (freeList pool))[k]?

/-! ## The sampled inputs (R49, R112) -/

/-- A candidate as a lane's port carries it: the address has `PADDR_BITS` bits, and the tokens name values of the parameter
types (R6, R32; log 3). -/
def Candidate.onPort (c : Config) (k : Candidate) : Candidate :=
  { k with
    addr := k.addr % 2 ^ c.paddrBits
    age := cutToken c.ages k.age
    ident := cutToken c.idents k.ident
    restart := cutToken c.restarts k.restart
    metaInfo := cutToken c.metas k.metaInfo }

/-- An age signal as its port carries it (R6, R49; log 3). -/
def AgeSignal.onPort (c : Config) (f : AgeSignal) : AgeSignal := { f with age := cutToken c.ages f.age }

/-- An input vector as the ports carry it: one submission for each of the `W` lanes and one ready for each of the `P`
unordered ports, the default of R112 where none is given (log 5, log 21); every address, tag and token cut to its width (R49,
R92; log 3). -/
def Input.onPorts (c : Config) (x : Input) : Input :=
  { x with
    prod := (List.range c.w).map fun w =>
      let p := x.prod.getD w Submission.idle
      { p with cand := p.cand.onPort c }
    flush := x.flush.onPort c
    tok := x.tok.onPort c
    resp := { x.resp with tag := x.resp.tag % 2 ^ c.idxW }
    wbUnReady := (List.range c.p).map fun j => x.wbUnReady.getD j true }

/-- The inputs that an environment gives cycle `t` after the inputs `last` (log 5). In the defaults the token stays as it was
("`TOK` is sticky", R112), the draw is free (log 6), and what R112 leaves open is the model's choice (log 21). An empty
sequence has the inputs of R112 before any `TOK` (log 5). -/
def Environment.input (e : Environment) (t : Nat) (last : Input) : Input :=
  match e with
  | .defaults => { Input.idle with tok := last.tok, draw := Config.freeDraw t }
  | .again line => line.getD (t % line.length) Input.idle
  | .free k => freeInput k t

end Sys2Proof.Machine
end

