-- ==== Sys2Proof/Machine/Flags.lean ====
section
/-!
DEFINITION. Every one-bit signal a rule computes: the shared predicates (R131 to R134), the admission, allocation,
arbitration, response, writeback and rollback conditions of R99 to R108. Each reads the start-of-cycle registers, the
sampled inputs and the values of earlier phases, never a next value (R130, R135).
-/
namespace Sys2Proof.Machine

/-! ## Slots -/

/-- Slot `i` at the start of the cycle; an index the block does not have reads as an empty slot. -/
def State.slot (s : State) (i : Nat) : Slot := s.regs.slots.getD i Slot.reset

/-- `cancel_now[i]` (R133). -/
def cancelNow (s : State) (i : Nat) : Bool := (s.slot i).occ && hit s.cfg (s.slot i).req.age s.inp.flush

/-- `elig[i]` (R134): the token's copy names the Request's age, or the Request is unordered. -/
def elig (s : State) (i : Nat) : Bool :=
  (s.slot i).occ
    && (decide ((s.slot i).req.cls = .unord) || (s.regs.tokD1.valid && decide (s.regs.tokD1.age = (s.slot i).req.age)))

/-! ## Admission (43_admission.md) -/

/-- The stage register of lane `w` at the start of the cycle. -/
def State.stage (s : State) (w : Nat) : Stage := s.regs.s2.getD w Stage.reset

/-- The submission of lane `w` in this cycle, the default where the inputs have none (log 5, log 21). -/
def State.submission (s : State) (w : Nat) : Submission := s.inp.prod.getD w Submission.idle

/-- `fh[w]`: the flush of the stage-1 cycle or that of this cycle hits the held candidate (R214). -/
def flushHit (s : State) (w : Nat) : Bool := hit s.cfg (s.stage w).c.age s.regs.flushD1 || hit s.cfg (s.stage w).c.age s.inp.flush

/-- `enq_req[w]`, as the admission operation of the lane left it (R223). -/
def enqReq (s : State) (w : Nat) : Bool := s.wires.enqReq.getD w false

/-! ## Allocation (42_allocator.md) -/

/-- `free_cnt = |S.pool|`, the count before this cycle's frees (R191). -/
def freeCnt (s : State) : Nat := s.regs.pool.count true

/-- `off[w]`, the enqueue requests on lower lanes (R190). -/
def allocOff (s : State) (w : Nat) : Nat := countBelow w (enqReq s)

/-- `can[w]` (R191). -/
def canAlloc (s : State) (w : Nat) : Bool := decide (allocOff s w < freeCnt s)

/-- `enq_idx[w]`, if `enq_ok[w]` (R192). -/
def enqIdx (s : State) (w : Nat) : Option Nat := s.out.enq.getD w none

/-- `enq_ok[w]` (R192). -/
def enqOk (s : State) (w : Nat) : Bool := (enqIdx s w).isSome

/-- `lane_of[i]`: the lane that was granted slot `i` in this cycle (R150). -/
def laneOf (s : State) (i : Nat) : Option Nat := leastBelow s.cfg.w fun w => enqIdx s w == some i

/-- `en[i]`: some lane was granted slot `i` in this cycle (R150). -/
def enqEn (s : State) (i : Nat) : Bool := (laneOf s i).isSome

/-! ## Arbitration (44_arbiter.md) -/

/-- `ordReq[i]` (R230); the ordered-select signal of R170. -/
def ordReq (s : State) (i : Nat) : Bool :=
  decide ((s.slot i).st = .req) && decide ((s.slot i).req.cls = .ord) && elig s i && !cancelNow s i

/-- `unReq[i]` (R230). -/
def unReq (s : State) (i : Nat) : Bool :=
  decide ((s.slot i).st = .req) && decide ((s.slot i).req.cls = .unord) && !cancelNow s i

/-- `any_ord` (R230). -/
def anyOrd (s : State) : Bool := anyBelow s.cfg.n (ordReq s)

/-- `any_un` (R230). -/
def anyUn (s : State) : Bool := anyBelow s.cfg.n (unReq s)

/-- `ord_multi` (R230). -/
def ordMulti (s : State) : Bool := decide (1 < countBelow s.cfg.n (ordReq s))

/-- `fire[i]`, as the arbiter's operation left it (R237). -/
def fire (s : State) (i : Nat) : Bool := s.wires.fire.getD i false

/-! ## Responses (45_router.md) -/

/-- `awaiting`: the response's tag names a slot in `RESP` (R104). -/
def awaiting (s : State) : Bool :=
  decide (s.inp.resp.tag < s.cfg.n) && decide ((s.slot s.inp.resp.tag).st = .resp)

/-- `resp_hit[i]`, as the router's operation left it (R251). -/
def respHit (s : State) (i : Nat) : Bool := s.wires.respHit.getD i false

/-! ## Writeback (46_writeback.md) -/

/-- `wbv[i]` (R260). -/
def wbv (s : State) (i : Nat) : Bool := decide ((s.slot i).st = .wb) && !cancelNow s i

/-- `ordWB[i]` (R260). -/
def ordWb (s : State) (i : Nat) : Bool := wbv s i && decide ((s.slot i).req.cls = .ord)

/-- `unWB[i]` (R263). -/
def unWb (s : State) (i : Nat) : Bool := wbv s i && decide ((s.slot i).req.cls = .unord)

/-- `o`, the slot the ordered port offers, if any (R260). -/
def ordOffer (s : State) : Option Nat := leastBelow s.cfg.n (ordWb s)

/-- `ord_wb_any` (R260). -/
def ordWbAny (s : State) : Bool := anyBelow s.cfg.n (ordWb s)

/-- `ord_wb_multi` (R260). -/
def ordWbMulti (s : State) : Bool := decide (1 < countBelow s.cfg.n (ordWb s))

/-- `unWB[i] && i mod P = j` (R263, R264). -/
def unWbOn (s : State) (j i : Nat) : Bool := unWb s i && decide (portOf s.cfg i = j)

/-- `u[j]`, the slot the unordered port `j` offers, if any (R263). -/
def unOffer (s : State) (j : Nat) : Option Nat := leastBelow s.cfg.n (unWbOn s j)

/-- `un_any[j]` (R263). -/
def unAny (s : State) (j : Nat) : Bool := anyBelow s.cfg.n (unWbOn s j)

/-- The ready input of the unordered port `j` (R49), 1 where the input gives none (R112). -/
def unReady (s : State) (j : Nat) : Bool := s.inp.wbUnReady.getD j true

/-- Slot `i` is offered on a port, so its Result is formed (R273: "only a Result that is offered forms its value"). -/
def offered (s : State) (i : Nat) : Bool :=
  decide (ordOffer s = some i) || anyBelow s.cfg.p fun j => decide (unOffer s j = some i)

/-- `wb_fire[i]`, as the writeback operations left it (R275). -/
def wbFire (s : State) (i : Nat) : Bool := s.wires.wbFire.getD i false

/-- `wb_fire[i] && S.slot[i].rerr` (R280). -/
def faulting (s : State) (i : Nat) : Bool := wbFire s i && (s.slot i).rerr

/-- `fault_any` (R280). -/
def faultAny (s : State) : Bool := anyBelow s.cfg.n (faulting s)

/-! ## Rollback (47_rollback.md) -/

/-- `rb_cand[w]` (R290). -/
def rbCand (s : State) (w : Nat) : Bool := enqReq s w && !enqOk s w

/-- `oldest[w]`: a candidate with no strictly older one on another lane (R291). -/
def rbOldest (s : State) (w : Nat) : Bool :=
  rbCand s w
    && (List.range s.cfg.w).all fun u =>
      decide (u = w) || !(rbCand s u && older s.cfg (s.stage u).c.age (s.stage w).c.age)

/-- `rb_any` (R290). -/
def rbAny (s : State) : Bool := anyBelow s.cfg.w (rbCand s)

/-- `e`, the elected lane, if there is a candidate (R291). -/
def rbElected (s : State) : Option Nat := leastBelow s.cfg.w (rbOldest s)

/-- `rb_tie`: two lanes are oldest (R291). -/
def rbTie (s : State) : Bool := decide (1 < countBelow s.cfg.w (rbOldest s))

/-- A flush check of the elected record (R293), read only when there is one. With no candidate it is 0, whatever the flushes
are, as 95_test_vectors.md has it (vector RB-1). -/
def rbHit (s : State) (f : AgeSignal) : Bool :=
  match rbElected s with
  | some e => hit s.cfg (s.stage e).c.age f
  | none => false

end Sys2Proof.Machine
end

