-- ==== Sys2Proof/Machine/Ops.lean ====
section
/-!
DEFINITION. The named operations on the state that the meanings are made of: writing a field's next value (R10), the marks
(R48), driving an output, and the phase values. There is no exception entry and no return from one: the block has neither
(R320, R321). There is no memory operation: the block reads none (R83).
-/
namespace Sys2Proof.Machine

/-! ## Marks (R10, R48) -/

/-- The set of fault reasons with one more. -/
def FaultMark.add (m : FaultMark) : FaultReason → FaultMark
  | .illegalResubmit => { m with illegalResubmit := true }
  | .staleResponse => { m with staleResponse := true }
  | .ordMulti => { m with ordMulti := true }
  | .wbOrdMulti => { m with wbOrdMulti := true }
  | .ageTie => { m with ageTie := true }
  | .slotInvariant => { m with slotInvariant := true }

/-- Whether a set of fault reasons holds one. -/
def FaultMark.has (m : FaultMark) : FaultReason → Bool
  | .illegalResubmit => m.illegalResubmit
  | .staleResponse => m.staleResponse
  | .ordMulti => m.ordMulti
  | .wbOrdMulti => m.wbOrdMulti
  | .ageTie => m.ageTie
  | .slotInvariant => m.slotInvariant

/-- The set of refusal reasons with one more. -/
def RefusedMark.add (m : RefusedMark) : RefusalReason → RefusedMark
  | .badClass => { m with badClass := true }
  | .badSize => { m with badSize := true }

/-- Whether a set of refusal reasons holds one. -/
def RefusedMark.has (m : RefusedMark) : RefusalReason → Bool
  | .badClass => m.badClass
  | .badSize => m.badSize

/-- The code of a fault reason in a trace (R316). -/
def FaultReason.code : FaultReason → Nat
  | .illegalResubmit => 1
  | .staleResponse => 2
  | .ordMulti => 3
  | .wbOrdMulti => 4
  | .ageTie => 5
  | .slotInvariant => 6

/-- `raise Fault(r)` (R10, R138): the mark is set, the cycle goes on. -/
def State.raise (s : State) (r : FaultReason) : State := { s with faultMark := s.faultMark.add r }

/-- `refuse(r)` (R10, R138): the mark is set, the cycle goes on. -/
def State.refuse (s : State) (r : RefusalReason) : State := { s with refused := s.refused.add r }

/-! ## Next values of the registers (R10) -/

/-- Fields of slot `i` take new next values; the others keep theirs. -/
def State.writeSlot (s : State) (i : Nat) (f : Slot → Slot) : State :=
  { s with nxt := { s.nxt with slots := s.nxt.slots.modify i f } }

/-- Fields of the stage register of lane `w` take new next values. -/
def State.writeStage (s : State) (w : Nat) (f : Stage → Stage) : State :=
  { s with nxt := { s.nxt with s2 := s.nxt.s2.modify w f } }

/-- `rr_last' <- g` (R233). -/
def State.writeRrLast (s : State) (g : Nat) : State := { s with nxt := { s.nxt with rrLast := g } }

/-- The rollback register takes a new next value (R294, R296, R297). -/
def State.writeRb (s : State) (d : Directive) : State := { s with nxt := { s.nxt with rb := d } }

/-! ## Phase values (R135) -/

/-- `enq_req[w] := b` (R223). -/
def State.setEnqReq (s : State) (w : Nat) (b : Bool) : State :=
  { s with wires := { s.wires with enqReq := s.wires.enqReq.set w b } }

/-- The shaped value of slot `i` (R265). -/
def State.setShaped (s : State) (i : Nat) (d : Beat) : State :=
  { s with wires := { s.wires with shaped := s.wires.shaped.set i d } }

/-- `fire[i] := 1` (R237). -/
def State.setFire (s : State) (i : Nat) : State := { s with wires := { s.wires with fire := s.wires.fire.set i true } }

/-- `resp_hit` is 1 at one slot and 0 at every other (R252). -/
def State.setRespHit (s : State) (i : Nat) : State :=
  { s with wires := { s.wires with respHit := (List.replicate s.cfg.n false).set i true } }

/-- Every `resp_hit[i] := 0` (R253, R254). -/
def State.clearRespHit (s : State) : State :=
  { s with wires := { s.wires with respHit := List.replicate s.cfg.n false } }

/-- `wb_fire[i] := 1` (R275). -/
def State.setWbFire (s : State) (i : Nat) : State :=
  { s with wires := { s.wires with wbFire := s.wires.wbFire.set i true } }

/-- `free[i] := 1` (R168). -/
def State.setFree (s : State) (i : Nat) : State := { s with wires := { s.wires with free := s.wires.free.set i true } }

/-! ## Outputs (R50) -/

/-- `O.enq_ok[w]`, `O.enq_idx[w]` and `O.alloc_reject[w]` (R192, R193, R197). -/
def State.driveEnq (s : State) (w : Nat) (idx : Option Nat) (reject : Bool) : State :=
  { s with out := { s.out with enq := s.out.enq.set w idx, allocReject := s.out.allocReject.set w reject } }

/-- `O.be_req` (R235, R241). -/
def State.driveBeReq (s : State) (m : Option BeReq) : State := { s with out := { s.out with beReq := m } }

/-- `O.wb_ord` and `O.wb_ord_raw` (R260, R261, R277). -/
def State.driveWbOrd (s : State) (r : Option Result) (raw : Option RawWriteback) : State :=
  { s with out := { s.out with wbOrd := r, wbOrdRaw := raw } }

/-- `O.wb_un[j]` (R263, R279). -/
def State.driveWbUn (s : State) (j : Nat) (r : Option Result) : State :=
  { s with out := { s.out with wbUn := s.out.wbUn.set j r } }

/-- `O.fault_out` (R280, R281). -/
def State.driveFaultOut (s : State) (r : Option Request) : State := { s with out := { s.out with faultOut := r } }

/-! ## Shared meanings -/

/-- An operation on slot `i` (R35). -/
def onSlot (s : State) (i : Nat) (t : State) : Host.Outcome State Fault Refusal :=
  if i < s.cfg.n then .next t else .fault (.noSuchSlot i)

/-- An operation on lane `w` (R6). -/
def onLane (s : State) (w : Nat) (t : State) : Host.Outcome State Fault Refusal :=
  if w < s.cfg.w then .next t else .fault (.noSuchLane w)

/-- An operation on the unordered port `j` (R6). -/
def onPort (s : State) (j : Nat) (t : State) : Host.Outcome State Fault Refusal :=
  if j < s.cfg.p then .next t else .fault (.noSuchPort j)

/-- An operation on the least index of a set, `none` when the set is empty (R9). -/
def onChoice (g : Option Nat) (t : Nat → State) : Host.Outcome State Fault Refusal :=
  match g with
  | some i => .next (t i)
  | none => .fault .emptyChoice

/-- `BeReq(g)` for the Request of slot `g` (R235). -/
def beReq (s : State) (g : Nat) : BeReq := beReqOf s.cfg g (s.slot g).req

/-- `flt(i)` (R274). -/
def flt (s : State) (i : Nat) : Bool := (s.slot i).req.fault || (s.slot i).rerr

/-- `Res(i)` (R274); its data is the value that the shaping operation of the slot formed in this cycle (R265; log 11). -/
def res (s : State) (i : Nat) : Result :=
  { req := { (s.slot i).req with fault := flt s i }, data := s.wires.shaped.getD i 0, fault := flt s i }

/-- `WbRaw(i)` (R261). -/
def wbRaw (s : State) (i : Nat) : RawWriteback := { data := (s.slot i).rdata, req := (s.slot i).req }

/-- The least eligible ordered requester (R231, R232). -/
def ordChoice (s : State) : Option Nat := leastBelow s.cfg.n (ordReq s)

/-- The round-robin choice among the unordered requesters (R239, R240). -/
def unChoice (s : State) : Option Nat := roundRobin s.cfg.n s.regs.rrLast (unReq s)

/-- A slot's message is offered; it is handed off if the channel is ready (R231, R232, R237). -/
def State.handoff (s : State) (g : Nat) (ready : Bool) : State :=
  let s := s.driveBeReq (some (beReq s g))
  if ready then s.setFire g else s

/-- The ordered port offers a slot's Result; it is accepted if the consumer is ready (R260, R276, R275). -/
def State.drainOrd (s : State) (o : Nat) (ready : Bool) : State :=
  let s := s.driveWbOrd (some (res s o)) (some (wbRaw s o))
  if ready then s.setWbFire o else s

/-- The unordered port `j` offers a slot's Result; it is accepted if the consumer is ready (R263, R278, R275). -/
def State.drainUn (s : State) (j u : Nat) (ready : Bool) : State :=
  let s := s.driveWbUn j (some (res s u))
  if ready then s.setWbFire u else s

/-- The slot frees: empty, in `IDLE`, no cancel pending, and its free signal is 1 (R154, R157, R160, R161, R165, R166, R168).
Only the fields that the freeing operation's rule writes are written. -/
def State.freeSlot (s : State) (i : Nat) (f : Slot → Slot) : State := (s.writeSlot i f).setFree i

/-- The rollback register is armed with the record of lane `e` (R294). -/
def State.armRb (s : State) (e : Nat) : State :=
  s.writeRb { v := true, age := (s.stage e).c.age, restart := (s.stage e).c.restart }

/-- The rollback register holds no directive; its other fields keep their values (R296, R297). -/
def State.disarmRb (s : State) : State := s.writeRb { s.nxt.rb with v := false }

end Sys2Proof.Machine
end

