-- ==== Sys2Proof/Machine/Admission.lean ====
section
/-!
DEFINITION. The Admission Filter (43_admission.md): stage 1, chosen by SUB[w] (R100), and stage 2, chosen by AS[w] (R101).
-/
namespace Sys2Proof.Machine

/-- `SUB_BAD` (R213): the reserved class code is refused and nothing is captured. -/
def execSubBad (w : Nat) (s : State) : Host.Outcome State Fault Refusal :=
  onLane s w ((s.refuse .badClass).writeStage w fun r => { r with v := false })

/-- `SUB_CAPTURE` (R211): the submitted candidate is captured, unchecked. -/
def execSubCapture (w : Nat) (s : State) : Host.Outcome State Fault Refusal :=
  onLane s w (s.writeStage w fun _ => { v := true, c := (s.submission w).cand })

/-- `SUB_NONE` (R212): no submission; the held candidate keeps its stale value. -/
def execSubNone (w : Nat) (s : State) : Host.Outcome State Fault Refusal :=
  onLane s w (s.writeStage w fun r => { r with v := false })

/-- `ADM_NONE` (R215): the stage register is empty. -/
def execAdmNone (w : Nat) (s : State) : Host.Outcome State Fault Refusal := onLane s w (s.setEnqReq w false)

/-- `ADM_BAD_CLASS` (R216): a held reserved class code is refused. -/
def execAdmBadClass (w : Nat) (s : State) : Host.Outcome State Fault Refusal :=
  onLane s w ((s.refuse .badClass).setEnqReq w false)

/-- `ADM_FLUSHED` (R217): the candidate is cancelled and dropped. -/
def execAdmFlushed (w : Nat) (s : State) : Host.Outcome State Fault Refusal := onLane s w (s.setEnqReq w false)

/-- `ADM_EXC` (R218): the candidate carries a fault and is dropped. -/
def execAdmExc (w : Nat) (s : State) : Host.Outcome State Fault Refusal := onLane s w (s.setEnqReq w false)

/-- `ADM_REPLAY` (R219): the candidate needs replay and is dropped. -/
def execAdmReplay (w : Nat) (s : State) : Host.Outcome State Fault Refusal := onLane s w (s.setEnqReq w false)

/-- `ADM_UNTRACKED` (R220): the candidate is neither ordered nor unordered and is dropped. -/
def execAdmUntracked (w : Nat) (s : State) : Host.Outcome State Fault Refusal := onLane s w (s.setEnqReq w false)

/-- `ADM_ENQ_ORD` (R221): an ordered candidate competes for a slot. -/
def execAdmEnqOrd (w : Nat) (s : State) : Host.Outcome State Fault Refusal := onLane s w (s.setEnqReq w true)

/-- `ADM_ENQ_UNORD` (R222): an unordered candidate competes for a slot. -/
def execAdmEnqUnord (w : Nat) (s : State) : Host.Outcome State Fault Refusal := onLane s w (s.setEnqReq w true)

end Sys2Proof.Machine
end

