-- ==== Sys2Proof/Machine/Alloc.lean ====
section
/-!
DEFINITION. The Slot Allocator's operations per lane (42_allocator.md R190 to R197), chosen by AL[w] (R102), and the pool update (R194).
-/
namespace Sys2Proof.Machine

/-- `ALLOC_GRANT` (R192): the lane gets the free index that the cycle's draw gives its offset (R195). -/
def execAllocGrant (w : Nat) (s : State) : Host.Outcome State Fault Refusal :=
  if w < s.cfg.w then
    onChoice (pick s.inp.draw s.regs.pool (allocOff s w)) fun idx => s.driveEnq w (some idx) false
  else .fault (.noSuchLane w)

/-- `ALLOC_REJECT` (R193): no free slot for the lane's request. -/
def execAllocReject (w : Nat) (s : State) : Host.Outcome State Fault Refusal := onLane s w (s.driveEnq w none true)

/-- `ALLOC_NONE` (R197): the lane has no request; its index is unconstrained, so there is none (log 13). -/
def execAllocNone (w : Nat) (s : State) : Host.Outcome State Fault Refusal := onLane s w (s.driveEnq w none false)

/-- The pool at the next cycle boundary (R194): the granted indices leave, the freed ones enter. -/
def nextPool (s : State) : List Bool :=
  (List.range s.cfg.n).map fun i => (s.regs.pool.getD i false && !enqEn s i) || s.wires.free.getD i false

end Sys2Proof.Machine
end

