-- ==== Sys2Proof/Machine/Arbiter.lean ====
section
/-!
DEFINITION. The Back-End Arbiter (44_arbiter.md R230 to R241), chosen by AR (R103), and the message it forwards, BE_READ (R109, R235).
-/
namespace Sys2Proof.Machine

/-- `ARB_ORD_MULTI_FAULT` (R238): the mark is set, then the lowest eligible ordered request is served as R231 or R232 says. -/
def execArbOrdMultiFault (ready : Bool) (s : State) : Host.Outcome State Fault Refusal :=
  onChoice (ordChoice s) fun g => (s.raise .ordMulti).handoff g ready

/-- `ARB_ORD_FIRE` (R231): the eligible ordered request is offered and handed off; the pointer does not move. -/
def execArbOrdFire (s : State) : Host.Outcome State Fault Refusal := onChoice (ordChoice s) fun g => s.handoff g true

/-- `ARB_ORD_STALL` (R232): the eligible ordered request is offered to a busy channel. -/
def execArbOrdStall (s : State) : Host.Outcome State Fault Refusal := onChoice (ordChoice s) fun g => s.handoff g false

/-- `ARB_UNORD_FIRE` (R239): the round-robin choice is offered and handed off, and the pointer moves to it (R233). -/
def execArbUnordFire (s : State) : Host.Outcome State Fault Refusal :=
  onChoice (unChoice s) fun g => (s.handoff g true).writeRrLast g

/-- `ARB_UNORD_STALL` (R240): the round-robin choice is offered to a busy channel. -/
def execArbUnordStall (s : State) : Host.Outcome State Fault Refusal := onChoice (unChoice s) fun g => s.handoff g false

/-- `ARB_IDLE` (R241): nothing is offered. -/
def execArbIdle (s : State) : Host.Outcome State Fault Refusal := .next (s.driveBeReq none)

/-- `BE_READ` (R235): the message of the selected slot is on the channel. -/
def execBeRead (g : Nat) (s : State) : Host.Outcome State Fault Refusal :=
  onSlot s g (s.driveBeReq (some (beReq s g)))

end Sys2Proof.Machine
end

