-- ==== Sys2Proof/Machine/Rollback.lean ====
section
/-!
DEFINITION. The Rollback Selector (47_rollback.md R290 to R297), chosen by RB (R108).
-/
namespace Sys2Proof.Machine

/-- `RB_NONE` (R297): no candidate, no directive. -/
def execRbNone (s : State) : Host.Outcome State Fault Refusal := .next s.disarmRb

/-- `RB_TIE_FAULT` (R292): the mark is set, then the lowest oldest lane is armed, or suppressed if a flush check hits it. -/
def execRbTieFault (now d1 d2 : Bool) (s : State) : Host.Outcome State Fault Refusal :=
  onChoice (rbElected s) fun e =>
    let s := s.raise .ageTie
    if now || d1 || d2 then s.disarmRb else s.armRb e

/-- `RB_ARM` (R294): the elected record becomes the directive of the next cycle. -/
def execRbArm (s : State) : Host.Outcome State Fault Refusal := onChoice (rbElected s) fun e => s.armRb e

/-- `RB_SUPPRESS` (R296): the elected record is already being flushed; no directive. -/
def execRbSuppress (s : State) : Host.Outcome State Fault Refusal := .next s.disarmRb

end Sys2Proof.Machine
end

