-- ==== Sys2Proof/Machine/Router.lean ====
section
/-!
DEFINITION. The Response Router (45_router.md R250 to R254), chosen by RS (R104).
-/
namespace Sys2Proof.Machine

/-- `RESP_DELIVER` (R252): the slot the tag names, and no other, sees the response. -/
def execRespDeliver (s : State) : Host.Outcome State Fault Refusal :=
  onSlot s s.inp.resp.tag (s.setRespHit s.inp.resp.tag)

/-- `RESP_STALE` (R253): the mark is set and no slot sees the response. -/
def execRespStale (s : State) : Host.Outcome State Fault Refusal := .next (s.raise .staleResponse).clearRespHit

/-- `RESP_NONE` (R254): no response. -/
def execRespNone (s : State) : Host.Outcome State Fault Refusal := .next s.clearRespHit

end Sys2Proof.Machine
end

