-- ==== Sys2Proof/Machine/Slot.lean ====
section
/-!
DEFINITION. The operations of a Transaction Slot (41_slot.md R150 to R171), chosen by SS[i] (R99). Every write is to the slot's own
fields (R170).
-/
namespace Sys2Proof.Machine

/-- `SLOT_RESUBMIT_FAULT` (R153): a granted slot is still occupied; the mark is set and the slot is not written. -/
def execSlotResubmitFault (i : Nat) (s : State) : Host.Outcome State Fault Refusal :=
  onSlot s i (s.raise .illegalResubmit)

/-- `SLOT_EMPTY` (R152): an empty slot stays empty. -/
def execSlotEmpty (i : Nat) (s : State) : Host.Outcome State Fault Refusal := onSlot s i s

/-- `SLOT_ENQ_WRITE` (R151): the slot takes the Request of the lane that was granted it; `rdata` and `rerr` keep their values. -/
def execSlotEnqWrite (i : Nat) (s : State) : Host.Outcome State Fault Refusal :=
  if i < s.cfg.n then
    onChoice (laneOf s i) fun w =>
      s.writeSlot i fun sl => { sl with occ := true, st := .idle, req := (s.stage w).c.toRequest, cpend := false }
  else .fault (.noSuchSlot i)

/-- `IDLE_CANCEL` (R154): flushed in `IDLE`, the slot frees. -/
def execIdleCancel (i : Nat) (s : State) : Host.Outcome State Fault Refusal :=
  onSlot s i (s.freeSlot i fun sl => { sl with occ := false })

/-- `IDLE_ISSUE` (R155): an eligible Request enters `REQ`. -/
def execIdleIssue (i : Nat) (s : State) : Host.Outcome State Fault Refusal :=
  onSlot s i (s.writeSlot i fun sl => { sl with st := .req })

/-- `IDLE_WAIT` (R156): not eligible, not cancelled: nothing changes. -/
def execIdleWait (i : Nat) (s : State) : Host.Outcome State Fault Refusal := onSlot s i s

/-- `REQ_CANCEL` (R157): flushed before its handoff, the slot frees. -/
def execReqCancel (i : Nat) (s : State) : Host.Outcome State Fault Refusal :=
  onSlot s i (s.freeSlot i fun sl => { sl with st := .idle, occ := false })

/-- `REQ_FIRE` (R158): the request was handed off; the slot awaits its response. -/
def execReqFire (i : Nat) (s : State) : Host.Outcome State Fault Refusal :=
  onSlot s i (s.writeSlot i fun sl => { sl with st := .resp })

/-- `REQ_STALL` (R159): not handed off, not cancelled: nothing changes. -/
def execReqStall (i : Nat) (s : State) : Host.Outcome State Fault Refusal := onSlot s i s

/-- `RESP_DISCARD_NOW` (R160): the response comes with a flush; it is discarded and the slot frees. -/
def execRespDiscardNow (i : Nat) (s : State) : Host.Outcome State Fault Refusal :=
  onSlot s i (s.freeSlot i fun sl => { sl with st := .idle, occ := false, cpend := false })

/-- `RESP_DISCARD_PENDING` (R161): the response of a slot cancelled earlier is discarded and the slot frees. -/
def execRespDiscardPending (i : Nat) (s : State) : Host.Outcome State Fault Refusal :=
  onSlot s i (s.freeSlot i fun sl => { sl with st := .idle, occ := false, cpend := false })

/-- `RESP_CAPTURE` (R162): the slot captures the response's data and error flag, whole. -/
def execRespCapture (i : Nat) (s : State) : Host.Outcome State Fault Refusal :=
  onSlot s i (s.writeSlot i fun sl => { sl with rdata := s.inp.resp.data, rerr := s.inp.resp.err, st := .wb })

/-- `RESP_MARK_CANCEL` (R163): flushed while it waits, the slot notes the cancel; the free is deferred. -/
def execRespMarkCancel (i : Nat) (s : State) : Host.Outcome State Fault Refusal :=
  onSlot s i (s.writeSlot i fun sl => { sl with cpend := true })

/-- `RESP_WAIT` (R164): no response and no flush: nothing changes. -/
def execRespWait (i : Nat) (s : State) : Host.Outcome State Fault Refusal := onSlot s i s

/-- `WB_CANCEL` (R165): flushed before its writeback, the slot frees. -/
def execWbCancel (i : Nat) (s : State) : Host.Outcome State Fault Refusal :=
  onSlot s i (s.freeSlot i fun sl => { sl with st := .idle, occ := false })

/-- `WB_FIRE` (R166): the Result was accepted; the slot frees in the same cycle. -/
def execWbFire (i : Nat) (s : State) : Host.Outcome State Fault Refusal :=
  onSlot s i (s.freeSlot i fun sl => { sl with st := .idle, occ := false })

/-- `WB_HOLD` (R167): not accepted, not cancelled: nothing changes. -/
def execWbHold (i : Nat) (s : State) : Host.Outcome State Fault Refusal := onSlot s i s

/-- `SLOT_INVARIANT_FAULT` (R169): the selector matches no other row; the mark is set and the slot keeps its state. -/
def execSlotInvariantFault (i : Nat) (s : State) : Host.Outcome State Fault Refusal :=
  onSlot s i (s.raise .slotInvariant)

end Sys2Proof.Machine
end

