-- ==== Sys2Proof/Machine/Writeback.lean ====
section
/-!
DEFINITION. The Writeback Fan-out (46_writeback.md R260 to R281): the shaping of an offered slot's value, chosen by SZ (R106), the
ordered port, chosen by WO, an unordered port, chosen by WU[j] (R105), and the fault output, chosen by FO (R107).
-/
namespace Sys2Proof.Machine

/-- `SZ_LB` (R266). -/
def execSzLb (i : Nat) (s : State) : Host.Outcome State Fault Refusal :=
  onSlot s i (s.setShaped i (shapeLb (selected (s.slot i))))

/-- `SZ_LH` (R267). -/
def execSzLh (i : Nat) (s : State) : Host.Outcome State Fault Refusal :=
  onSlot s i (s.setShaped i (shapeLh (selected (s.slot i))))

/-- `SZ_LW` (R268). -/
def execSzLw (i : Nat) (s : State) : Host.Outcome State Fault Refusal :=
  onSlot s i (s.setShaped i (shapeLw (selected (s.slot i))))

/-- `SZ_LD` (R269). -/
def execSzLd (i : Nat) (s : State) : Host.Outcome State Fault Refusal :=
  onSlot s i (s.setShaped i (shapeLd (selected (s.slot i))))

/-- `SZ_LBU` (R270). -/
def execSzLbu (i : Nat) (s : State) : Host.Outcome State Fault Refusal :=
  onSlot s i (s.setShaped i (shapeLbu (selected (s.slot i))))

/-- `SZ_LHU` (R271). -/
def execSzLhu (i : Nat) (s : State) : Host.Outcome State Fault Refusal :=
  onSlot s i (s.setShaped i (shapeLhu (selected (s.slot i))))

/-- `SZ_LWU` (R272). -/
def execSzLwu (i : Nat) (s : State) : Host.Outcome State Fault Refusal :=
  onSlot s i (s.setShaped i (shapeLwu (selected (s.slot i))))

/-- `SZ_RSV` (R273): the reserved size is refused; the value is `sel`. -/
def execSzRsv (i : Nat) (s : State) : Host.Outcome State Fault Refusal :=
  onSlot s i ((s.refuse .badSize).setShaped i (shapeLd (selected (s.slot i))))

/-- `WB_ORD_MULTI_FAULT` (R262): the mark is set, then the lowest ordered completion is served as R260 or R276 says. -/
def execWbOrdMultiFault (ready : Bool) (s : State) : Host.Outcome State Fault Refusal :=
  onChoice (ordOffer s) fun o => (s.raise .wbOrdMulti).drainOrd o ready

/-- `WB_ORD_FIRE` (R260): the ordered completion is offered and accepted. -/
def execWbOrdFire (s : State) : Host.Outcome State Fault Refusal := onChoice (ordOffer s) fun o => s.drainOrd o true

/-- `WB_ORD_HOLD` (R276): the ordered completion is offered and not accepted. -/
def execWbOrdHold (s : State) : Host.Outcome State Fault Refusal := onChoice (ordOffer s) fun o => s.drainOrd o false

/-- `WB_ORD_NONE` (R277): nothing on the ordered port; the raw channel is unconstrained, so it holds nothing (log 13). -/
def execWbOrdNone (s : State) : Host.Outcome State Fault Refusal := .next (s.driveWbOrd none none)

/-- `WB_UN_FIRE` (R263): the port's completion is offered and accepted. -/
def execWbUnFire (j : Nat) (s : State) : Host.Outcome State Fault Refusal :=
  if j < s.cfg.p then onChoice (unOffer s j) fun u => s.drainUn j u true else .fault (.noSuchPort j)

/-- `WB_UN_HOLD` (R278): the port's completion is offered and not accepted. -/
def execWbUnHold (j : Nat) (s : State) : Host.Outcome State Fault Refusal :=
  if j < s.cfg.p then onChoice (unOffer s j) fun u => s.drainUn j u false else .fault (.noSuchPort j)

/-- `WB_UN_NONE` (R279): nothing on the port. -/
def execWbUnNone (j : Nat) (s : State) : Host.Outcome State Fault Refusal := onPort s j (s.driveWbUn j none)

/-- `FAULT_REPORT` (R280): the lowest accepted slot with a back-end error is reported, its Request's fault folded in. -/
def execFaultReport (s : State) : Host.Outcome State Fault Refusal :=
  onChoice (leastBelow s.cfg.n (faulting s)) fun f => s.driveFaultOut (some (res s f).req)

/-- `FAULT_NONE` (R281): nothing is reported. -/
def execFaultNone (s : State) : Host.Outcome State Fault Refusal := .next (s.driveFaultOut none)

end Sys2Proof.Machine
end

