-- ==== Sys2Proof/Syntax.lean ====
section
/-!
DEFINITION. The operations of the block: one constructor per row of spec/opcode_table.json, in the table's order.
An operation carries the index of the component that performs it (a slot `i`, a lane `w`, a port `j`) and the bits of its
selector that its row leaves open, under their names in 30_encoding.md R99 to R109 (log 8).
-/
namespace Sys2Proof

/-- The operations (R2, R98 to R109). -/
inductive Instr where
  -- SS[i] (R99)
  | slotResubmitFault (i : Nat) (st : SlotState) (cancel cpend ev : Bool)
  | slotEmpty (i : Nat) (ev : Bool)
  | slotEnqWrite (i : Nat) (ev : Bool)
  | idleCancel (i : Nat) (ev : Bool)
  | idleIssue (i : Nat)
  | idleWait (i : Nat)
  | reqCancel (i : Nat) (ev : Bool)
  | reqFire (i : Nat)
  | reqStall (i : Nat)
  | respDiscardNow (i : Nat) (cpend : Bool)
  | respDiscardPending (i : Nat)
  | respCapture (i : Nat)
  | respMarkCancel (i : Nat) (cpend : Bool)
  | respWait (i : Nat) (cpend : Bool)
  | wbCancel (i : Nat) (ev : Bool)
  | wbFire (i : Nat)
  | wbHold (i : Nat)
  | slotInvariantFault (i : Nat) (ss : BitVec 7)
  -- SUB[w] (R100)
  | subBad (w : Nat)
  | subCapture (w : Nat) (cls : Cls)
  | subNone (w : Nat) (cls : Cls)
  -- AS[w] (R101)
  | admNone (w : Nat) (fh exc replay : Bool) (cls : Cls)
  | admBadClass (w : Nat) (fh exc replay : Bool)
  | admFlushed (w : Nat) (exc replay : Bool) (cls : Cls)
  | admExc (w : Nat) (replay : Bool) (cls : Cls)
  | admReplay (w : Nat) (cls : Cls)
  | admUntracked (w : Nat)
  | admEnqOrd (w : Nat)
  | admEnqUnord (w : Nat)
  -- AL[w] (R102)
  | allocGrant (w : Nat)
  | allocReject (w : Nat)
  | allocNone (w : Nat) (can : Bool)
  -- AR (R103)
  | arbOrdMultiFault (anyUn ready : Bool)
  | arbOrdFire (anyUn : Bool)
  | arbOrdStall (anyUn : Bool)
  | arbUnordFire (ordMulti : Bool)
  | arbUnordStall (ordMulti : Bool)
  | arbIdle (ready ordMulti : Bool)
  -- RS (R104)
  | respDeliver
  | respStale
  | respNone (awaiting : Bool)
  -- WO (R105)
  | wbOrdMultiFault (any ready : Bool)
  | wbOrdFire
  | wbOrdHold
  | wbOrdNone (ready : Bool)
  -- WU[j] (R105)
  | wbUnFire (j : Nat)
  | wbUnHold (j : Nat)
  | wbUnNone (j : Nat) (ready : Bool)
  -- SZ, for the slot i whose Result is being formed (R106)
  | szLb (i : Nat)
  | szLh (i : Nat)
  | szLw (i : Nat)
  | szLd (i : Nat)
  | szLbu (i : Nat)
  | szLhu (i : Nat)
  | szLwu (i : Nat)
  | szRsv (i : Nat)
  -- FO (R107)
  | faultReport
  | faultNone
  -- RB (R108)
  | rbNone (tie now d1 d2 : Bool)
  | rbTieFault (now d1 d2 : Bool)
  | rbArm
  | rbSuppress (now d1 d2 : Bool)
  -- BEREQ.cmd, of the message of slot g (R109)
  | beRead (g : Nat)
deriving DecidableEq, Repr

end Sys2Proof
end

