-- ==== Sys2Proof/Machine/Dispatch.lean ====
section
/-!
DEFINITION. One arm per operation of the table, each a call of its meaning.
-/
namespace Sys2Proof.Machine

/-- The meaning of an operation (R2): what it does in the cycle of which the state is part. -/
def exec (i : Instr) (s : State) : Host.Outcome State Fault Refusal :=
  match i with
  | .slotResubmitFault k _ _ _ _ => Sys2Proof.Machine.execSlotResubmitFault k s
  | .slotEmpty k _ => Sys2Proof.Machine.execSlotEmpty k s
  | .slotEnqWrite k _ => Sys2Proof.Machine.execSlotEnqWrite k s
  | .idleCancel k _ => Sys2Proof.Machine.execIdleCancel k s
  | .idleIssue k => Sys2Proof.Machine.execIdleIssue k s
  | .idleWait k => Sys2Proof.Machine.execIdleWait k s
  | .reqCancel k _ => Sys2Proof.Machine.execReqCancel k s
  | .reqFire k => Sys2Proof.Machine.execReqFire k s
  | .reqStall k => Sys2Proof.Machine.execReqStall k s
  | .respDiscardNow k _ => Sys2Proof.Machine.execRespDiscardNow k s
  | .respDiscardPending k => Sys2Proof.Machine.execRespDiscardPending k s
  | .respCapture k => Sys2Proof.Machine.execRespCapture k s
  | .respMarkCancel k _ => Sys2Proof.Machine.execRespMarkCancel k s
  | .respWait k _ => Sys2Proof.Machine.execRespWait k s
  | .wbCancel k _ => Sys2Proof.Machine.execWbCancel k s
  | .wbFire k => Sys2Proof.Machine.execWbFire k s
  | .wbHold k => Sys2Proof.Machine.execWbHold k s
  | .slotInvariantFault k _ => Sys2Proof.Machine.execSlotInvariantFault k s
  | .subBad w => Sys2Proof.Machine.execSubBad w s
  | .subCapture w _ => Sys2Proof.Machine.execSubCapture w s
  | .subNone w _ => Sys2Proof.Machine.execSubNone w s
  | .admNone w _ _ _ _ => Sys2Proof.Machine.execAdmNone w s
  | .admBadClass w _ _ _ => Sys2Proof.Machine.execAdmBadClass w s
  | .admFlushed w _ _ _ => Sys2Proof.Machine.execAdmFlushed w s
  | .admExc w _ _ => Sys2Proof.Machine.execAdmExc w s
  | .admReplay w _ => Sys2Proof.Machine.execAdmReplay w s
  | .admUntracked w => Sys2Proof.Machine.execAdmUntracked w s
  | .admEnqOrd w => Sys2Proof.Machine.execAdmEnqOrd w s
  | .admEnqUnord w => Sys2Proof.Machine.execAdmEnqUnord w s
  | .allocGrant w => Sys2Proof.Machine.execAllocGrant w s
  | .allocReject w => Sys2Proof.Machine.execAllocReject w s
  | .allocNone w _ => Sys2Proof.Machine.execAllocNone w s
  | .arbOrdMultiFault _ ready => Sys2Proof.Machine.execArbOrdMultiFault ready s
  | .arbOrdFire _ => Sys2Proof.Machine.execArbOrdFire s
  | .arbOrdStall _ => Sys2Proof.Machine.execArbOrdStall s
  | .arbUnordFire _ => Sys2Proof.Machine.execArbUnordFire s
  | .arbUnordStall _ => Sys2Proof.Machine.execArbUnordStall s
  | .arbIdle _ _ => Sys2Proof.Machine.execArbIdle s
  | .respDeliver => Sys2Proof.Machine.execRespDeliver s
  | .respStale => Sys2Proof.Machine.execRespStale s
  | .respNone _ => Sys2Proof.Machine.execRespNone s
  | .wbOrdMultiFault _ ready => Sys2Proof.Machine.execWbOrdMultiFault ready s
  | .wbOrdFire => Sys2Proof.Machine.execWbOrdFire s
  | .wbOrdHold => Sys2Proof.Machine.execWbOrdHold s
  | .wbOrdNone _ => Sys2Proof.Machine.execWbOrdNone s
  | .wbUnFire j => Sys2Proof.Machine.execWbUnFire j s
  | .wbUnHold j => Sys2Proof.Machine.execWbUnHold j s
  | .wbUnNone j _ => Sys2Proof.Machine.execWbUnNone j s
  | .szLb k => Sys2Proof.Machine.execSzLb k s
  | .szLh k => Sys2Proof.Machine.execSzLh k s
  | .szLw k => Sys2Proof.Machine.execSzLw k s
  | .szLd k => Sys2Proof.Machine.execSzLd k s
  | .szLbu k => Sys2Proof.Machine.execSzLbu k s
  | .szLhu k => Sys2Proof.Machine.execSzLhu k s
  | .szLwu k => Sys2Proof.Machine.execSzLwu k s
  | .szRsv k => Sys2Proof.Machine.execSzRsv k s
  | .faultReport => Sys2Proof.Machine.execFaultReport s
  | .faultNone => Sys2Proof.Machine.execFaultNone s
  | .rbNone _ _ _ _ => Sys2Proof.Machine.execRbNone s
  | .rbTieFault now d1 d2 => Sys2Proof.Machine.execRbTieFault now d1 d2 s
  | .rbArm => Sys2Proof.Machine.execRbArm s
  | .rbSuppress _ _ _ => Sys2Proof.Machine.execRbSuppress s
  | .beRead g => Sys2Proof.Machine.execBeRead g s

end Sys2Proof.Machine
end

