-- ==== Sys2Proof/Decode.lean ====
section
/-!
DEFINITION. From selector to operation and back (30_encoding.md R90 to R109): the field codes, the bit layout of every
selector, the match and mask tables, the decoder (first match wins, R98), total and rejecting by name, and the encoder.
-/
namespace Sys2Proof

/-! ## Field codes and bit fields -/

/-- One bit as a number. -/
def bitNat (b : Bool) : Nat := if b then 1 else 0

/-- `w[lo+len-1 : lo]` (R9). -/
def field (w lo len : Nat) : Nat := (w >>> lo) % 2 ^ len

/-- The code of a slot state (R90). -/
def slotStateCode : SlotState → Nat
  | .idle => 0
  | .req => 1
  | .resp => 2
  | .wb => 3

/-- The slot state of a 2-bit code (R90: "All four values are used"). -/
def slotStateOf : Nat → SlotState
  | 0 => .idle
  | 1 => .req
  | 2 => .resp
  | _ => .wb

/-- The code of a class (R91). -/
def clsCode : Cls → Nat
  | .none => 0
  | .ord => 1
  | .unord => 2
  | .rsvd => 3

/-- The class of a 2-bit code (R91), `0b11` being the reserved one. -/
def clsOf : Nat → Cls
  | 0 => .none
  | 1 => .ord
  | 2 => .unord
  | _ => .rsvd

/-! ## Selector layouts -/

/-- `SS = st[6:5] occ[4] cancel_now[3] cpend[2] ev[1] en[0]` (R99). -/
def ssWord (st : SlotState) (occ cancel cpend ev en : Bool) : Nat :=
  32 * slotStateCode st + 16 * bitNat occ + 8 * bitNat cancel + 4 * bitNat cpend + 2 * bitNat ev + bitNat en

/-- `SUB = valid[2] cls[1:0]` (R100). -/
def subWord (valid : Bool) (cls : Cls) : Nat := 4 * bitNat valid + clsCode cls

/-- `AS = v[5] fh[4] has_exc[3] need_replay[2] cls[1:0]` (R101). -/
def admWord (v fh exc replay : Bool) (cls : Cls) : Nat :=
  32 * bitNat v + 16 * bitNat fh + 8 * bitNat exc + 4 * bitNat replay + clsCode cls

/-- `AL = enq_req[1] can[0]` (R102). -/
def alWord (enqReq can : Bool) : Nat := 2 * bitNat enqReq + bitNat can

/-- `AR = any_ord[3] any_un[2] be_req_ready[1] ord_multi[0]` (R103). -/
def arWord (anyOrd anyUn ready ordMulti : Bool) : Nat :=
  8 * bitNat anyOrd + 4 * bitNat anyUn + 2 * bitNat ready + bitNat ordMulti

/-- `RS = resp.valid[1] awaiting[0]` (R104). -/
def rsWord (valid awaiting : Bool) : Nat := 2 * bitNat valid + bitNat awaiting

/-- `WO = ord_wb_multi[2] ord_wb_any[1] wb_ord_ready[0]` (R105). -/
def woWord (multi any ready : Bool) : Nat := 4 * bitNat multi + 2 * bitNat any + bitNat ready

/-- `WU = un_any[1] wb_un_ready[0]` (R105). -/
def wuWord (any ready : Bool) : Nat := 2 * bitNat any + bitNat ready

/-- `RB = rb_any[4] rb_tie[3] h_now[2] h_d1[1] h_d2[0]` (R108). -/
def rbWord (any tie now d1 d2 : Bool) : Nat :=
  16 * bitNat any + 8 * bitNat tie + 4 * bitNat now + 2 * bitNat d1 + bitNat d2

/-! ## The tables -/

/-- The rows of a table in order, each a mask and a match (R99 to R108). The command field has one row, with the
configuration's `CMD_READ` over all `CMDW` bits (R109). -/
def tableRows (c : Config) : Table → List (Nat × Nat)
  | .ss => [(0x11, 0x11), (0x7D, 0x00), (0x7D, 0x01), (0x7D, 0x18), (0x7F, 0x12), (0x7F, 0x10), (0x7D, 0x38),
      (0x7F, 0x32), (0x7F, 0x30), (0x7B, 0x5A), (0x7F, 0x56), (0x7F, 0x52), (0x7B, 0x58), (0x7B, 0x50),
      (0x7D, 0x78), (0x7F, 0x72), (0x7F, 0x70), (0x00, 0x00)]
  | .sub => [(0x7, 0x7), (0x4, 0x4), (0x0, 0x0)]
  | .adm => [(0x20, 0x00), (0x23, 0x23), (0x30, 0x30), (0x38, 0x28), (0x3C, 0x24), (0x3F, 0x20), (0x3F, 0x21), (0x3F, 0x22)]
  | .al => [(0x3, 0x3), (0x3, 0x2), (0x2, 0x0)]
  | .ar => [(0x9, 0x9), (0xB, 0xA), (0xB, 0x8), (0xE, 0x6), (0xE, 0x4), (0xC, 0x0)]
  | .rs => [(0x3, 0x3), (0x3, 0x2), (0x2, 0x0)]
  | .wo => [(0x4, 0x4), (0x7, 0x3), (0x7, 0x2), (0x2, 0x0)]
  | .wu => [(0x3, 0x3), (0x3, 0x2), (0x2, 0x0)]
  | .sz => [(0x7, 0x0), (0x7, 0x1), (0x7, 0x2), (0x7, 0x3), (0x7, 0x4), (0x7, 0x5), (0x7, 0x6), (0x7, 0x7)]
  | .fo => [(0x1, 0x1), (0x1, 0x0)]
  | .rb => [(0x10, 0x00), (0x18, 0x18), (0x1F, 0x10), (0x18, 0x10)]
  | .be => [(2 ^ c.cmdW - 1, c.cmdRead)]

/-- The width of a table's selector in bits (R99 to R109). -/
def tableWidth (c : Config) : Table → Nat
  | .ss => 7
  | .sub => 3
  | .adm => 6
  | .al => 2
  | .ar => 4
  | .rs => 2
  | .wo => 3
  | .wu => 2
  | .sz => 3
  | .fo => 1
  | .rb => 5
  | .be => c.cmdW

/-- How many components perform an operation of the table (R99 to R109: "one per slot", "one per lane", "one per cycle"). -/
def tableCount (c : Config) : Table → Nat
  | .ss | .sz | .be => c.n
  | .sub | .adm | .al => c.w
  | .wu => c.p
  | .ar | .rs | .wo | .fo | .rb => 1

/-- The index of the first row of a table that a selector matches (R98). -/
def rowOf (c : Config) (t : Table) (w : Nat) : Nat := (tableRows c t).findIdx fun r => w &&& r.1 == r.2

/-! ## The decoder -/

/-- Why a selector is rejected. -/
inductive DecodeError where
  /-- the configuration has no such component (safe) -/
  | noSuchSite (x : Site)
  /-- the selector has bits above its table's width (safe) -/
  | tooWide (t : Table) (w : Nat)
  /-- a command that is not `CMD_READ` (R94: "No other command value is ever sent"; safe) -/
  | unknownCommand (w : Nat)
deriving DecidableEq, Repr

/-- The operation of a slot selector (R99). -/
def decodeSlot (c : Config) (i w : Nat) : Instr :=
  match rowOf c .ss w with
  | 0 => .slotResubmitFault i (slotStateOf (field w 5 2)) (w.testBit 3) (w.testBit 2) (w.testBit 1)
  | 1 => .slotEmpty i (w.testBit 1)
  | 2 => .slotEnqWrite i (w.testBit 1)
  | 3 => .idleCancel i (w.testBit 1)
  | 4 => .idleIssue i
  | 5 => .idleWait i
  | 6 => .reqCancel i (w.testBit 1)
  | 7 => .reqFire i
  | 8 => .reqStall i
  | 9 => .respDiscardNow i (w.testBit 2)
  | 10 => .respDiscardPending i
  | 11 => .respCapture i
  | 12 => .respMarkCancel i (w.testBit 2)
  | 13 => .respWait i (w.testBit 2)
  | 14 => .wbCancel i (w.testBit 1)
  | 15 => .wbFire i
  | 16 => .wbHold i
  | _ => .slotInvariantFault i (BitVec.ofNat 7 w)

/-- The operation of a submit selector (R100). -/
def decodeSubmit (c : Config) (l w : Nat) : Instr :=
  match rowOf c .sub w with
  | 0 => .subBad l
  | 1 => .subCapture l (clsOf (field w 0 2))
  | _ => .subNone l (clsOf (field w 0 2))

/-- The operation of an admission selector (R101). -/
def decodeAdmission (c : Config) (l w : Nat) : Instr :=
  match rowOf c .adm w with
  | 0 => .admNone l (w.testBit 4) (w.testBit 3) (w.testBit 2) (clsOf (field w 0 2))
  | 1 => .admBadClass l (w.testBit 4) (w.testBit 3) (w.testBit 2)
  | 2 => .admFlushed l (w.testBit 3) (w.testBit 2) (clsOf (field w 0 2))
  | 3 => .admExc l (w.testBit 2) (clsOf (field w 0 2))
  | 4 => .admReplay l (clsOf (field w 0 2))
  | 5 => .admUntracked l
  | 6 => .admEnqOrd l
  | _ => .admEnqUnord l

/-- The operation of an allocation selector (R102). -/
def decodeAlloc (c : Config) (l w : Nat) : Instr :=
  match rowOf c .al w with
  | 0 => .allocGrant l
  | 1 => .allocReject l
  | _ => .allocNone l (w.testBit 0)

/-- The operation of the arbiter selector (R103). DESIGN CHOICE (log 19): the words 5 and 7, which no cycle forms, take the
first row of the table that matches, as R98 says, and not row 6 as the last sentence of R103 says. -/
def decodeArbiter (c : Config) (w : Nat) : Instr :=
  match rowOf c .ar w with
  | 0 => .arbOrdMultiFault (w.testBit 2) (w.testBit 1)
  | 1 => .arbOrdFire (w.testBit 2)
  | 2 => .arbOrdStall (w.testBit 2)
  | 3 => .arbUnordFire (w.testBit 0)
  | 4 => .arbUnordStall (w.testBit 0)
  | _ => .arbIdle (w.testBit 1) (w.testBit 0)

/-- The operation of the response selector (R104). -/
def decodeResponse (c : Config) (w : Nat) : Instr :=
  match rowOf c .rs w with
  | 0 => .respDeliver
  | 1 => .respStale
  | _ => .respNone (w.testBit 0)

/-- The operation of the ordered writeback selector (R105). -/
def decodeWbOrd (c : Config) (w : Nat) : Instr :=
  match rowOf c .wo w with
  | 0 => .wbOrdMultiFault (w.testBit 1) (w.testBit 0)
  | 1 => .wbOrdFire
  | 2 => .wbOrdHold
  | _ => .wbOrdNone (w.testBit 0)

/-- The operation of an unordered writeback selector (R105). -/
def decodeWbUnord (c : Config) (j w : Nat) : Instr :=
  match rowOf c .wu w with
  | 0 => .wbUnFire j
  | 1 => .wbUnHold j
  | _ => .wbUnNone j (w.testBit 0)

/-- The operation of a shaping selector (R93, R106). -/
def decodeShape (c : Config) (i w : Nat) : Instr :=
  match rowOf c .sz w with
  | 0 => .szLb i
  | 1 => .szLh i
  | 2 => .szLw i
  | 3 => .szLd i
  | 4 => .szLbu i
  | 5 => .szLhu i
  | 6 => .szLwu i
  | _ => .szRsv i

/-- The operation of the fault-output selector (R107). -/
def decodeFaultOut (c : Config) (w : Nat) : Instr :=
  match rowOf c .fo w with
  | 0 => .faultReport
  | _ => .faultNone

/-- The operation of the rollback selector (R108). -/
def decodeRollback (c : Config) (w : Nat) : Instr :=
  match rowOf c .rb w with
  | 0 => .rbNone (w.testBit 3) (w.testBit 2) (w.testBit 1) (w.testBit 0)
  | 1 => .rbTieFault (w.testBit 2) (w.testBit 1) (w.testBit 0)
  | 2 => .rbArm
  | _ => .rbSuppress (w.testBit 2) (w.testBit 1) (w.testBit 0)

/-- The operation that the component `x` performs when its selector is `w`, first match wins (R98). Every selector table is
total; only the command field has values without a row. -/
def decode (c : Config) (x : Site) (w : Nat) : Except DecodeError Instr :=
  if tableCount c x.table ≤ x.idx then .error (.noSuchSite x)
  else if 2 ^ tableWidth c x.table ≤ w then .error (.tooWide x.table w)
  else match x.table with
    | .ss => .ok (decodeSlot c x.idx w)
    | .sub => .ok (decodeSubmit c x.idx w)
    | .adm => .ok (decodeAdmission c x.idx w)
    | .al => .ok (decodeAlloc c x.idx w)
    | .ar => .ok (decodeArbiter c w)
    | .rs => .ok (decodeResponse c w)
    | .wo => .ok (decodeWbOrd c w)
    | .wu => .ok (decodeWbUnord c x.idx w)
    | .sz => .ok (decodeShape c x.idx w)
    | .fo => .ok (decodeFaultOut c w)
    | .rb => .ok (decodeRollback c w)
    | .be => if w = c.cmdRead then .ok (.beRead x.idx) else .error (.unknownCommand w)

/-! ## The encoder -/

/-- The component that performs an operation, and its selector, from the selector layouts and the values each row
fixes (R99 to R109). -/
def encode (c : Config) : Instr → Site × Nat
  | .slotResubmitFault i st cancel cpend ev => (⟨.ss, i⟩, ssWord st true cancel cpend ev true)
  | .slotEmpty i ev => (⟨.ss, i⟩, ssWord .idle false false false ev false)
  | .slotEnqWrite i ev => (⟨.ss, i⟩, ssWord .idle false false false ev true)
  | .idleCancel i ev => (⟨.ss, i⟩, ssWord .idle true true false ev false)
  | .idleIssue i => (⟨.ss, i⟩, ssWord .idle true false false true false)
  | .idleWait i => (⟨.ss, i⟩, ssWord .idle true false false false false)
  | .reqCancel i ev => (⟨.ss, i⟩, ssWord .req true true false ev false)
  | .reqFire i => (⟨.ss, i⟩, ssWord .req true false false true false)
  | .reqStall i => (⟨.ss, i⟩, ssWord .req true false false false false)
  | .respDiscardNow i cpend => (⟨.ss, i⟩, ssWord .resp true true cpend true false)
  | .respDiscardPending i => (⟨.ss, i⟩, ssWord .resp true false true true false)
  | .respCapture i => (⟨.ss, i⟩, ssWord .resp true false false true false)
  | .respMarkCancel i cpend => (⟨.ss, i⟩, ssWord .resp true true cpend false false)
  | .respWait i cpend => (⟨.ss, i⟩, ssWord .resp true false cpend false false)
  | .wbCancel i ev => (⟨.ss, i⟩, ssWord .wb true true false ev false)
  | .wbFire i => (⟨.ss, i⟩, ssWord .wb true false false true false)
  | .wbHold i => (⟨.ss, i⟩, ssWord .wb true false false false false)
  | .slotInvariantFault i ss => (⟨.ss, i⟩, ss.toNat)
  | .subBad w => (⟨.sub, w⟩, subWord true .rsvd)
  | .subCapture w cls => (⟨.sub, w⟩, subWord true cls)
  | .subNone w cls => (⟨.sub, w⟩, subWord false cls)
  | .admNone w fh exc replay cls => (⟨.adm, w⟩, admWord false fh exc replay cls)
  | .admBadClass w fh exc replay => (⟨.adm, w⟩, admWord true fh exc replay .rsvd)
  | .admFlushed w exc replay cls => (⟨.adm, w⟩, admWord true true exc replay cls)
  | .admExc w replay cls => (⟨.adm, w⟩, admWord true false true replay cls)
  | .admReplay w cls => (⟨.adm, w⟩, admWord true false false true cls)
  | .admUntracked w => (⟨.adm, w⟩, admWord true false false false .none)
  | .admEnqOrd w => (⟨.adm, w⟩, admWord true false false false .ord)
  | .admEnqUnord w => (⟨.adm, w⟩, admWord true false false false .unord)
  | .allocGrant w => (⟨.al, w⟩, alWord true true)
  | .allocReject w => (⟨.al, w⟩, alWord true false)
  | .allocNone w can => (⟨.al, w⟩, alWord false can)
  | .arbOrdMultiFault anyUn ready => (⟨.ar, 0⟩, arWord true anyUn ready true)
  | .arbOrdFire anyUn => (⟨.ar, 0⟩, arWord true anyUn true false)
  | .arbOrdStall anyUn => (⟨.ar, 0⟩, arWord true anyUn false false)
  | .arbUnordFire ordMulti => (⟨.ar, 0⟩, arWord false true true ordMulti)
  | .arbUnordStall ordMulti => (⟨.ar, 0⟩, arWord false true false ordMulti)
  | .arbIdle ready ordMulti => (⟨.ar, 0⟩, arWord false false ready ordMulti)
  | .respDeliver => (⟨.rs, 0⟩, rsWord true true)
  | .respStale => (⟨.rs, 0⟩, rsWord true false)
  | .respNone awaiting => (⟨.rs, 0⟩, rsWord false awaiting)
  | .wbOrdMultiFault any ready => (⟨.wo, 0⟩, woWord true any ready)
  | .wbOrdFire => (⟨.wo, 0⟩, woWord false true true)
  | .wbOrdHold => (⟨.wo, 0⟩, woWord false true false)
  | .wbOrdNone ready => (⟨.wo, 0⟩, woWord false false ready)
  | .wbUnFire j => (⟨.wu, j⟩, wuWord true true)
  | .wbUnHold j => (⟨.wu, j⟩, wuWord true false)
  | .wbUnNone j ready => (⟨.wu, j⟩, wuWord false ready)
  | .szLb i => (⟨.sz, i⟩, 0)
  | .szLh i => (⟨.sz, i⟩, 1)
  | .szLw i => (⟨.sz, i⟩, 2)
  | .szLd i => (⟨.sz, i⟩, 3)
  | .szLbu i => (⟨.sz, i⟩, 4)
  | .szLhu i => (⟨.sz, i⟩, 5)
  | .szLwu i => (⟨.sz, i⟩, 6)
  | .szRsv i => (⟨.sz, i⟩, 7)
  | .faultReport => (⟨.fo, 0⟩, 1)
  | .faultNone => (⟨.fo, 0⟩, 0)
  | .rbNone tie now d1 d2 => (⟨.rb, 0⟩, rbWord false tie now d1 d2)
  | .rbTieFault now d1 d2 => (⟨.rb, 0⟩, rbWord true true now d1 d2)
  | .rbArm => (⟨.rb, 0⟩, rbWord true false false false false)
  | .rbSuppress now d1 d2 => (⟨.rb, 0⟩, rbWord true false now d1 d2)
  | .beRead g => (⟨.be, g⟩, c.cmdRead)

/-- The place of an operation's row in its table, from 0 (the column `#` of R99 to R108, less one). -/
def rowIndex : Instr → Nat
  | .slotResubmitFault _ _ _ _ _ => 0
  | .slotEmpty _ _ => 1
  | .slotEnqWrite _ _ => 2
  | .idleCancel _ _ => 3
  | .idleIssue _ => 4
  | .idleWait _ => 5
  | .reqCancel _ _ => 6
  | .reqFire _ => 7
  | .reqStall _ => 8
  | .respDiscardNow _ _ => 9
  | .respDiscardPending _ => 10
  | .respCapture _ => 11
  | .respMarkCancel _ _ => 12
  | .respWait _ _ => 13
  | .wbCancel _ _ => 14
  | .wbFire _ => 15
  | .wbHold _ => 16
  | .slotInvariantFault _ _ => 17
  | .subBad _ => 0
  | .subCapture _ _ => 1
  | .subNone _ _ => 2
  | .admNone _ _ _ _ _ => 0
  | .admBadClass _ _ _ _ => 1
  | .admFlushed _ _ _ _ => 2
  | .admExc _ _ _ => 3
  | .admReplay _ _ => 4
  | .admUntracked _ => 5
  | .admEnqOrd _ => 6
  | .admEnqUnord _ => 7
  | .allocGrant _ => 0
  | .allocReject _ => 1
  | .allocNone _ _ => 2
  | .arbOrdMultiFault _ _ => 0
  | .arbOrdFire _ => 1
  | .arbOrdStall _ => 2
  | .arbUnordFire _ => 3
  | .arbUnordStall _ => 4
  | .arbIdle _ _ => 5
  | .respDeliver => 0
  | .respStale => 1
  | .respNone _ => 2
  | .wbOrdMultiFault _ _ => 0
  | .wbOrdFire => 1
  | .wbOrdHold => 2
  | .wbOrdNone _ => 3
  | .wbUnFire _ => 0
  | .wbUnHold _ => 1
  | .wbUnNone _ _ => 2
  | .szLb _ => 0
  | .szLh _ => 1
  | .szLw _ => 2
  | .szLd _ => 3
  | .szLbu _ => 4
  | .szLhu _ => 5
  | .szLwu _ => 6
  | .szRsv _ => 7
  | .faultReport => 0
  | .faultNone => 1
  | .rbNone _ _ _ _ => 0
  | .rbTieFault _ _ _ => 1
  | .rbArm => 2
  | .rbSuppress _ _ _ => 3
  | .beRead _ => 0

/-! ## Words of the opcode table -/

/-- The tables in the order of 30_encoding.md. -/
def allTables : List Table := [.ss, .sub, .adm, .al, .ar, .rs, .wo, .wu, .sz, .fo, .rb, .be]

/-- DESIGN CHOICE (log 9): the table a bare word of the opcode table is read in. The twelve tables are separate (R98) and a
word does not name its own, so many words are a selector of several. The tables of `nbits` bits are tried, or all of them
where none has that width, first for a row that fixes exactly this word, then for any selector of enough bits. -/
def tableOfWord (nbits w : Nat) : Option Table :=
  let c := Config.reference
  let sized := allTables.filter fun t => tableWidth c t == nbits
  let tables := if sized.isEmpty then allTables else sized
  match tables.find? fun t => (tableRows c t).any fun r => r.2 == w with
  | some t => some t
  | none => tables.find? fun t => decide (w < 2 ^ tableWidth c t)

/-- The operation the decoder reads from a word of the opcode table, on the first component of its table, under the
reference configuration (log 9). -/
def decodeTableWord (nbits w : Nat) : Option Instr :=
  match tableOfWord nbits w with
  | none => none
  | some t =>
    match decode Config.reference ⟨t, 0⟩ w with
    | .ok i => some i
    | .error _ => none

end Sys2Proof
end

