-- ==== Sys2Proof/Machine/Selectors.lean ====
section
/-!
DEFINITION. The selector that each component's signals form (R99 to R109), which picks the operation it performs.
-/
namespace Sys2Proof.Machine

/-- `ev[i]`, the progress event of the slot's state (R99). -/
def progress (s : State) (i : Nat) : Bool :=
  match (s.slot i).st with
  | .idle => elig s i
  | .req => fire s i
  | .resp => respHit s i
  | .wb => wbFire s i

/-- `SS[i]` (R99). -/
def selSlot (s : State) (i : Nat) : Nat :=
  ssWord (s.slot i).st (s.slot i).occ (cancelNow s i) (s.slot i).cpend (progress s i) (enqEn s i)

/-- `SUB[w]` (R100). -/
def selSubmit (s : State) (w : Nat) : Nat := subWord (s.submission w).valid (s.submission w).cand.cls

/-- `AS[w]` (R101). -/
def selAdmission (s : State) (w : Nat) : Nat :=
  admWord (s.stage w).v (flushHit s w) (s.stage w).c.hasExc (s.stage w).c.needReplay (s.stage w).c.cls

/-- `AL[w]` (R102). -/
def selAlloc (s : State) (w : Nat) : Nat := alWord (enqReq s w) (canAlloc s w)

/-- `AR` (R103). -/
def selArbiter (s : State) : Nat := arWord (anyOrd s) (anyUn s) s.inp.beReqReady (ordMulti s)

/-- `RS` (R104). -/
def selResponse (s : State) : Nat := rsWord s.inp.resp.valid (awaiting s)

/-- `WO` (R105). -/
def selWbOrd (s : State) : Nat := woWord (ordWbMulti s) (ordWbAny s) s.inp.wbOrdReady

/-- `WU[j]` (R105). -/
def selWbUnord (s : State) (j : Nat) : Nat := wuWord (unAny s j) (unReady s j)

/-- `SZ`, the `size` field of the slot whose Result is being formed (R106). -/
def selShape (s : State) (i : Nat) : Nat := (s.slot i).req.size.toNat

/-- `FO` (R107). -/
def selFaultOut (s : State) : Nat := bitNat (faultAny s)

/-- `RB` (R108). -/
def selRollback (s : State) : Nat :=
  rbWord (rbAny s) (rbTie s) (rbHit s s.inp.flush) (rbHit s s.regs.flushD1) (rbHit s s.regs.flushD2)

/-- The `cmd` field of the message on the channel (R109). -/
def selCommand (s : State) : Nat :=
  match s.out.beReq with
  | some m => m.cmd
  | none => 0

/-- The selector of a component in this cycle. -/
def selector (s : State) (x : Site) : Nat :=
  match x.table with
  | .ss => selSlot s x.idx
  | .sub => selSubmit s x.idx
  | .adm => selAdmission s x.idx
  | .al => selAlloc s x.idx
  | .ar => selArbiter s
  | .rs => selResponse s
  | .wo => selWbOrd s
  | .wu => selWbUnord s x.idx
  | .sz => selShape s x.idx
  | .fo => selFaultOut s
  | .rb => selRollback s
  | .be => selCommand s

/-- Whether a component performs an operation in this cycle: a Result is formed only for an offered slot (R273), and the
command is that of the message on the channel, whose tag names its slot (R109). Every other component performs exactly one. -/
def active (s : State) (x : Site) : Bool :=
  match x.table with
  | .sz => offered s x.idx
  | .be =>
    match s.out.beReq with
    | some m => decide (m.tag = tagOf x.idx)
    | none => false
  | .ss | .sub | .adm | .al | .ar | .rs | .wo | .wu | .fo | .rb => true

end Sys2Proof.Machine
end

