-- ==== Sys2Proof/Machine/Cycle.lean ====
section
/-!
DEFINITION. One cycle of the block (40_cycle.md R130, R135 to R138): the inputs are sampled, every component performs the
operation its selector picks, phase by phase, and all registers take their next values together.
-/
namespace Sys2Proof.Machine

/-- `O.rob_ack[w]` (R224): not gated by the flush, the exception, the replay or the allocation. -/
def robAck (s : State) (w : Nat) : Option RobAck :=
  if (s.stage w).v && decide ((s.stage w).c.cls = .ord) then
    some { age := (s.stage w).c.age, ident := (s.stage w).c.ident }
  else none

/-- The outputs at the start of the cycle's phases: those that no operation chooses have their values (`prod_ready` R210,
`rob_ack` R224, `resp_ready` R250, `rollback` R295, `occupancy` and `cap_empty` R196), the others are not yet driven. -/
def outputBase (s : State) : Output :=
  { prodReady := List.replicate s.cfg.w true, enq := List.replicate s.cfg.w none,
    allocReject := List.replicate s.cfg.w false, robAck := (List.range s.cfg.w).map (robAck s), beReq := none,
    respReady := true, wbOrd := none, wbOrdRaw := none, wbUn := List.replicate s.cfg.p none, faultOut := none,
    rollback := s.regs.rb, occupancy := s.cfg.n - freeCnt s, capEmpty := decide (freeCnt s = 0) }

/-- The inputs of the coming cycle, on the ports: the script's next line, or the environment's once it has ended (R49, R112,
R139; log 5). -/
def nextInput (s : State) : Input :=
  match s.script with
  | line :: _ => line.onPorts s.cfg
  | [] => (s.env.input s.t s.inp).onPorts s.cfg

/-- The start of a cycle: the inputs are sampled, no field has been assigned, no phase has run (R10, R11, R130). -/
def sample (s : State) : State :=
  { s with inp := nextInput s, script := s.script.tail, nxt := s.regs, wires := Wires.idle s.cfg, out := outputBase s,
           trace := [] }

/-- A table's components in ascending order. -/
def sitesOf (c : Config) (t : Table) : List Site := (List.range (tableCount c t)).map fun k => { table := t, idx := k }

/-- The order of the phases B to H (R135). Within phase D the message follows the arbiter that selects it (log 11), within
phase F the values of the offered slots precede the ports that carry them (log 11). -/
def phaseOrder : List Table := [.sub, .adm, .al, .ar, .be, .rs, .sz, .wo, .wu, .fo, .rb, .ss]

/-- The components in the order of the phases. -/
def schedule (c : Config) : List Site := phaseOrder.flatMap (sitesOf c)

/-- One component performs the operation that its selector picks (R98); the selector enters the trace (R113). -/
def runSite (x : Site) (s : State) : Host.Outcome State Fault Refusal :=
  if active s x then
    match decode s.cfg x (selector s x) with
    | .ok i => exec i { s with trace := s.trace ++ [(x, selector s x)] }
    | .error _ => .refused (.undecodable x (selector s x))
  else .next s

/-- Components perform their operations in turn, to the first stop. -/
def runSites : List Site → State → Host.Outcome State Fault Refusal
  | [], s => .next s
  | x :: xs, s =>
    match runSite x s with
    | .next s' => runSites xs s'
    | .fault f => .fault f
    | .refused r => .refused r

/-- The registers at the next cycle boundary: what the operations wrote, and phase I (R45, R46, R135, R194). -/
def boundary (s : State) : Regs :=
  { s.nxt with pool := nextPool s, flushD1 := s.inp.flush, flushD2 := s.regs.flushD1, tokD1 := s.inp.tok }

/-- The cycle boundary: all writes take effect together (R130). -/
def commit (s : State) : State := { s with regs := boundary s, nxt := boundary s, t := s.t + 1 }

/-- `Step(S, I, pick)` (R135). -/
def cycle (s : State) : Host.Outcome State Fault Refusal :=
  match runSites (schedule s.cfg) (sample s) with
  | .next m => .next (commit m)
  | .fault f => .fault f
  | .refused r => .refused r

end Sys2Proof.Machine
end

