-- ==== Sys2Proof/Machine/Staging.lean ====
section
/-!
DEFINITION. Setting a state up so that the coming cycle's first component of a table has a wanted selector (log 10). The
block fetches nothing: a selector is what the registers and the inputs of a cycle make it, so all of these are set. This is
the host's test entry and no part of the machine.
-/
namespace Sys2Proof.Machine

/-- A Candidate of the given age and class, everything else zero. -/
def stagedCandidate (age : AgeKey) (cls : Cls) : Candidate :=
  { Candidate.unwritten with age := age, cls := cls }

/-- A slot that holds a Request of the given age and class in the given state. -/
def stagedSlot (st : SlotState) (age : AgeKey) (cls : Cls) : Slot :=
  { Slot.reset with occ := true, st := st, req := (stagedCandidate age cls).toRequest }

/-- Slots from index 0 on, and the pool that goes with them (R41). -/
def withSlots (s : State) (slots : List Slot) : State :=
  let all := slots ++ s.regs.slots.drop slots.length
  { s with regs := { s.regs with slots := all, pool := all.map fun sl => !sl.occ } }

/-- A stage register on each of the first lanes. -/
def withStages (s : State) (stages : List Stage) : State :=
  { s with regs := { s.regs with s2 := stages ++ s.regs.s2.drop stages.length } }

/-- The coming cycle's inputs. -/
def withLine (s : State) (line : Input) : State := { s with script := line :: s.script.tail }

/-- A valid flush of age 1, or none. -/
def stagedFlush (b : Bool) : AgeSignal := if b then { valid := true, age := 1 } else AgeSignal.reset

/-- Slot 0 with the state, `occ` and `cpend` of a slot selector, its events arranged by class, token, readies and response,
and, for `en`, an older candidate and a pool that offers index 0. -/
def stageSlot (s : State) (w : Nat) : State :=
  let st := slotStateOf (field w 5 2)
  let ev := w.testBit 1
  let en := w.testBit 0
  let cls := if decide (st = .idle) && !ev then Cls.ord else Cls.unord
  let sl : Slot := { stagedSlot st 1 cls with occ := w.testBit 4, cpend := w.testBit 2 }
  let s := withSlots s [sl]
  let s := { s with regs := { s.regs with tokD1 := AgeSignal.reset, flushD1 := AgeSignal.reset,
                                          pool := s.regs.pool.set 0 (en || !w.testBit 4) } }
  let s := withStages s [{ v := en, c := stagedCandidate 0 .unord }]
  withLine s { Input.idle with
    flush := stagedFlush (w.testBit 3), beReqReady := ev, wbUnReady := [ev],
    resp := { Response.idle with valid := decide (st = .resp) && ev } }

/-- Lane 0's submission. -/
def stageSubmit (s : State) (w : Nat) : State :=
  withLine s { Input.idle with prod := [{ valid := w.testBit 2, cand := stagedCandidate 1 (clsOf (field w 0 2)) }] }

/-- Lane 0's stage register and the flush. -/
def stageAdmission (s : State) (w : Nat) : State :=
  let cand : Candidate :=
    { stagedCandidate 1 (clsOf (field w 0 2)) with hasExc := w.testBit 3, needReplay := w.testBit 2 }
  let s := withStages s [{ v := w.testBit 5, c := cand }]
  withLine { s with regs := { s.regs with flushD1 := AgeSignal.reset } }
    { Input.idle with flush := stagedFlush (w.testBit 4) }

/-- A full block: every slot holds an ordered Request that waits for the token. -/
def fullBlock (s : State) : State :=
  withSlots { s with regs := { s.regs with tokD1 := AgeSignal.reset, flushD1 := AgeSignal.reset } }
    (List.replicate s.cfg.n (stagedSlot .idle 0 .ord))

/-- Lane 0's stage register, and a free slot or a full block. -/
def stageAlloc (s : State) (w : Nat) : State :=
  let s := if w.testBit 0 then withSlots s [Slot.reset] else fullBlock s
  withLine (withStages s [{ v := w.testBit 1, c := stagedCandidate 1 .unord }]) Input.idle

/-- Two ordered slots in `REQ`, as many eligible as the selector says, and an unordered one. -/
def stageArbiter (s : State) (w : Nat) : State :=
  let s := withSlots s
    [stagedSlot .req 0 .ord, stagedSlot .req (if w.testBit 0 then 0 else 1) .ord,
      stagedSlot (if w.testBit 2 then .req else .wb) 2 .unord]
  withLine { s with regs := { s.regs with tokD1 := { valid := w.testBit 3, age := 0 } } }
    { Input.idle with beReqReady := w.testBit 1 }

/-- Slot 0 in `RESP` or not, and a response with tag 0 or none. -/
def stageResponse (s : State) (w : Nat) : State :=
  withLine (withSlots s [stagedSlot (if w.testBit 0 then .resp else .wb) 1 .unord])
    { Input.idle with resp := { Response.idle with valid := w.testBit 1 } }

/-- As many ordered slots in `WB` as the selector says. -/
def stageWbOrd (s : State) (w : Nat) : State :=
  let cls (b : Bool) : Cls := if b then .ord else .unord
  withLine (withSlots s [stagedSlot .wb 0 (cls (w.testBit 1 || w.testBit 2)), stagedSlot .wb 1 (cls (w.testBit 2))])
    { Input.idle with wbOrdReady := w.testBit 0 }

/-- Slot 0 in `WB`, unordered, or not. -/
def stageWbUnord (s : State) (w : Nat) : State :=
  withLine (withSlots s [stagedSlot (if w.testBit 1 then .wb else .resp) 1 .unord])
    { Input.idle with wbUnReady := [w.testBit 0] }

/-- Slot 0 in `WB`, unordered, with the wanted size. -/
def stageShape (s : State) (w : Nat) : State :=
  let sl := stagedSlot .wb 1 .unord
  withLine (withSlots s [{ sl with req := { sl.req with size := BitVec.ofNat 3 w } }]) Input.idle

/-- Slot 0 in `WB`, unordered, accepted, with or without a back-end error. -/
def stageFaultOut (s : State) (w : Nat) : State :=
  withLine (withSlots s [{ stagedSlot .wb 1 .unord with rerr := w.testBit 0 }]) Input.idle

/-- A full block, candidates on lanes 0 and 1, and the flush history. -/
def stageRollback (s : State) (w : Nat) : State :=
  let s := fullBlock s
  let s := withStages s
    [{ v := w.testBit 4, c := stagedCandidate 1 .unord }, { v := w.testBit 4 && w.testBit 3, c := stagedCandidate 1 .unord }]
  withLine { s with regs := { s.regs with flushD1 := stagedFlush (w.testBit 1), flushD2 := stagedFlush (w.testBit 0) } }
    { Input.idle with flush := stagedFlush (w.testBit 2) }

/-- Slot 0 in `REQ`, unordered, and a ready channel. -/
def stageCommand (s : State) : State := withLine (withSlots s [stagedSlot .req 1 .unord]) Input.idle

/-- The state with all that it takes for the first component of table `t` to have the selector `w` in the coming cycle. -/
def stageTable (s : State) (t : Table) (w : Nat) : State :=
  match t with
  | .ss => stageSlot s w
  | .sub => stageSubmit s w
  | .adm => stageAdmission s w
  | .al => stageAlloc s w
  | .ar => stageArbiter s w
  | .rs => stageResponse s w
  | .wo => stageWbOrd s w
  | .wu => stageWbUnord s w
  | .sz => stageShape s w
  | .fo => stageFaultOut s w
  | .rb => stageRollback s w
  | .be => stageCommand s

/-- The state staged for a word of the opcode table, read as `decodeTableWord` reads it (log 9, log 10). -/
def stageWord (s : State) (nbits w : Nat) : State :=
  match tableOfWord nbits w with
  | some t => stageTable s t w
  | none => s

end Sys2Proof.Machine
end

