-- ==== Sys2Proof/Machine/Step.lean ====
section
/-!
DEFINITION. The step of the machine, one cycle of the block (R135, R139), and the host's entry for one table word.
-/
namespace Sys2Proof.Machine

/-- One cycle (R11, R135, R139: "A model has one step per cycle for the block"). -/
def step (s : State) : Host.Outcome State Fault Refusal := cycle s

/-- The state whose next step performs the operation of a table word on the first component of its table (log 9, log 10). -/
def State.withFetchWord (s : State) (nbits w : Nat) : State := stageWord s nbits w

end Sys2Proof.Machine
end

