-- ==== Sys2Proof/Machine/Messages.lean ====
section
/-!
DEFINITION. The packed words of the back-end messages, BEREQ (R95) and BERESP (R96), least significant field first.
-/
namespace Sys2Proof.Machine

/-- `BEREQ`: `addr`, `mask8`, `cmd`, `atomic`, `tag` from bit 0 up (R95). -/
def beReqWord (c : Config) (m : BeReq) : Nat :=
  m.addr
    + 2 ^ c.paddrBits * m.mask8.toNat
    + 2 ^ (c.paddrBits + 8) * m.cmd
    + 2 ^ (c.paddrBits + 8 + c.cmdW) * bitNat m.atomic
    + 2 ^ (c.paddrBits + 9 + c.cmdW) * m.tag

/-- The width of `BEREQ` (R95). -/
def beReqWidth (c : Config) : Nat := c.paddrBits + 9 + c.cmdW + c.idxW

/-- The fields of a `BEREQ` word (R95). -/
def beReqFields (c : Config) (w : Nat) : BeReq :=
  { addr := field w 0 c.paddrBits, mask8 := BitVec.ofNat 8 (field w c.paddrBits 8),
    cmd := field w (c.paddrBits + 8) c.cmdW, tag := field w (c.paddrBits + 9 + c.cmdW) c.idxW,
    atomic := w.testBit (c.paddrBits + 8 + c.cmdW) }

/-- `BERESP`: `data`, `err`, `tag` from bit 0 up (R96). -/
def beRespWord (r : Response) : Nat := r.data.toNat + 2 ^ 64 * bitNat r.err + 2 ^ 65 * r.tag

/-- The width of `BERESP` (R96). -/
def beRespWidth (c : Config) : Nat := 65 + c.idxW

/-- The response a `BERESP` word is, on the channel (R96, R113). -/
def beRespFields (c : Config) (w : Nat) : Response :=
  { valid := true, tag := field w 65 c.idxW, data := BitVec.ofNat 64 (field w 0 64), err := w.testBit 64 }

end Sys2Proof.Machine
end

