-- ==== Sys2Proof/WellFormed.lean ====
section
/-!
DEFINITION. Which terms of `Instr` are operations of a block of configuration `c`: the component exists, and the row's open
bits do not make an earlier row match (first match wins, R98).
-/
namespace Sys2Proof

/-- The class is no reserved code: with it `SUB_BAD` or `ADM_BAD_CLASS` matches first (R100, R101). -/
def Cls.legal (k : Cls) : Bool := decide (k ≠ .rsvd)

/-- The operations of a block of configuration `c` (R98 to R109). -/
def WellFormed (c : Config) : Instr → Bool
  | .slotInvariantFault i ss => decide (i < c.n) && decide (rowOf c .ss ss.toNat = 17)
  | .slotResubmitFault i _ _ _ _ | .slotEmpty i _ | .slotEnqWrite i _ | .idleCancel i _ | .idleIssue i | .idleWait i
  | .reqCancel i _ | .reqFire i | .reqStall i | .respDiscardNow i _ | .respDiscardPending i | .respCapture i
  | .respMarkCancel i _ | .respWait i _ | .wbCancel i _ | .wbFire i | .wbHold i
  | .szLb i | .szLh i | .szLw i | .szLd i | .szLbu i | .szLhu i | .szLwu i | .szRsv i | .beRead i => decide (i < c.n)
  | .subCapture w cls | .admFlushed w _ _ cls | .admExc w _ cls | .admReplay w cls => decide (w < c.w) && cls.legal
  | .subBad w | .subNone w _ | .admNone w _ _ _ _ | .admBadClass w _ _ _ | .admUntracked w | .admEnqOrd w | .admEnqUnord w
  | .allocGrant w | .allocReject w | .allocNone w _ => decide (w < c.w)
  | .wbUnFire j | .wbUnHold j | .wbUnNone j _ => decide (j < c.p)
  | .rbSuppress now d1 d2 => now || d1 || d2
  | .arbOrdMultiFault _ _ | .arbOrdFire _ | .arbOrdStall _ | .arbUnordFire _ | .arbUnordStall _ | .arbIdle _ _
  | .respDeliver | .respStale | .respNone _ | .wbOrdMultiFault _ _ | .wbOrdFire | .wbOrdHold | .wbOrdNone _
  | .faultReport | .faultNone | .rbNone _ _ _ _ | .rbTieFault _ _ _ | .rbArm => true

end Sys2Proof
end

