-- ==== Sys2Proof/Safety.lean ====
section
/-!
DEFINITION. What a safe state is: the invariants of the registers (R36, R41, R91), a run without marks (R48), the
contracts on the collaborators that some properties need (R342), and the words that statements about operations use.
-/
namespace Sys2Proof.Machine

/-! ## Invariants of the registers -/

/-- The slot invariant of R36: (a), (b) and (c). -/
abbrev SlotSound (sl : Slot) : Prop :=
  (sl.st ≠ .idle → sl.occ = true) ∧ (sl.cpend = true → sl.st = .resp) ∧ (sl.occ = false → sl.cpend = false)

/-- The fields of a Request have values of the parameters' widths and types (R6, R32). -/
abbrev Fits (c : Config) (r : Request) : Prop :=
  r.addr < 2 ^ c.paddrBits
    ∧ (hasToken c.ages r.age && hasToken c.idents r.ident && hasToken c.restarts r.restart && hasToken c.metas r.metaInfo) = true

/-- A Request that the block tracks: ordered or unordered (R32, R91), its fields of their widths and types (R6). -/
abbrev Tracked (c : Config) (r : Request) : Prop := (r.cls = .ord ∨ r.cls = .unord) ∧ Fits c r

/-- The ages in the flush history, the token's copy and the rollback register are values of the type `AgeKey`, and the
register's restart information is one of `Restart` (R6, R45 to R47). -/
abbrev AgesFit (s : State) : Prop :=
  (hasToken s.cfg.ages s.regs.flushD1.age && hasToken s.cfg.ages s.regs.flushD2.age
      && hasToken s.cfg.ages s.regs.tokD1.age) = true
    ∧ (s.regs.rb.v = true → (hasToken s.cfg.ages s.regs.rb.age && hasToken s.cfg.restarts s.regs.rb.restart) = true)

/-- The arrays have one entry per slot and per lane (R35, R40, R43). -/
abbrev Shaped (s : State) : Prop :=
  s.regs.slots.length = s.cfg.n ∧ s.regs.pool.length = s.cfg.n ∧ s.regs.s2.length = s.cfg.w

/-- The free pool is the set of the empty slots (R41). -/
abbrev PoolExact (s : State) : Prop := ∀ i, i < s.cfg.n → s.regs.pool.getD i false = !(s.slot i).occ

/-- The invariant of the registers between cycles: the parameters are admissible (R6), the arrays are complete, every slot
is sound (R36), the pool is exact (R41), the pointer is a slot index (R42), every held Request is tracked (R91), every held
Candidate has a legal class (R213, R216), and every field is of its width and type (R6). -/
abbrev Invariant (s : State) : Prop :=
  s.cfg.ok = true ∧ Shaped s ∧ PoolExact s ∧ s.regs.rrLast < s.cfg.n
    ∧ (∀ i, i < s.cfg.n → SlotSound (s.slot i))
    ∧ (∀ i, i < s.cfg.n → (s.slot i).occ = true → Tracked s.cfg (s.slot i).req)
    ∧ (∀ w, w < s.cfg.w → (s.stage w).v = true →
        (s.stage w).c.cls ≠ .rsvd ∧ Fits s.cfg (s.stage w).c.toRequest)
    ∧ AgesFit s

/-! ## Runs -/

/-- No mark is set: the state can end an acceptable run (R48). -/
abbrev Unmarked (s : State) : Prop := s.faultMark = FaultMark.empty ∧ s.refused = RefusedMark.empty

/-- The machine's `k`-th cycle boundary from `s`, if no stop came before. -/
def runCycles : Nat → State → Option State
  | 0, s => some s
  | k + 1, s =>
    match step s with
    | .next s' => runCycles k s'
    | .fault _ => none
    | .refused _ => none

/-- Reached from the reset of a configuration with some script and some environment, in some number of cycles (R340). -/
def Reachable (s : State) : Prop :=
  ∃ c k script env, Config.ok c = true ∧ runCycles k { State.resetOf c with script := script, env := env } = some s

/-! ## Contracts of the collaborators (R342). Contract (b), one token, holds of every input: a token has one age. -/

/-- R342 (a): no two Requests or Candidates held at the same time have the same age. -/
abbrev AgesUnique (s : State) : Prop :=
  (∀ i, i < s.cfg.n → ∀ j, j < s.cfg.n → i ≠ j → (s.slot i).occ = true → (s.slot j).occ = true →
      (s.slot i).req.age ≠ (s.slot j).req.age)
    ∧ (∀ w, w < s.cfg.w → ∀ u, u < s.cfg.w → w ≠ u → (s.stage w).v = true → (s.stage u).v = true →
      (s.stage w).c.age ≠ (s.stage u).c.age)
    ∧ (∀ i, i < s.cfg.n → ∀ w, w < s.cfg.w → (s.slot i).occ = true → (s.stage w).v = true →
      (s.slot i).req.age ≠ (s.stage w).c.age)

/-- R342 (c) for a token: it names no younger ordered Request while an older one is in `REQ`, `RESP` or `WB`. Which token and
which cycle a premise takes is said where it is used (log 16). -/
abbrev TokenInOrder (s : State) (tok : AgeSignal) : Prop :=
  ∀ i, i < s.cfg.n → ∀ j, j < s.cfg.n →
    (s.slot i).occ = true → (s.slot i).req.cls = .ord → (s.slot i).st ≠ .idle →
    (s.slot j).occ = true → (s.slot j).req.cls = .ord → tok.valid = true → tok.age = (s.slot j).req.age →
    older s.cfg (s.slot i).req.age (s.slot j).req.age = false

/-- At most one ordered Request is in flight, and it is the oldest ordered one the block holds (R350, "head of program
order"). -/
abbrev OrderedHead (s : State) : Prop :=
  ∀ i, i < s.cfg.n → ∀ j, j < s.cfg.n → i ≠ j →
    (s.slot i).occ = true → (s.slot i).req.cls = .ord → (s.slot i).st ≠ .idle →
    (s.slot j).occ = true → (s.slot j).req.cls = .ord →
    (s.slot j).st = .idle ∧ older s.cfg (s.slot i).req.age (s.slot j).req.age = true

/-- R342 (d) for the response of the coming cycle: it answers a slot that was handed off and has had no response, that is
one in `RESP` (R158, R162). The contract is of a history; this predicate is the model's reading of it (log 16, DEDUCED). -/
abbrev ChannelInOrder (s : State) : Prop :=
  (nextInput s).resp.valid = true →
    (nextInput s).resp.tag < s.cfg.n ∧ (s.slot (nextInput s).resp.tag).st = .resp

/-! ## Hangs (R349) -/

/-- Slot `i` waits in the coming cycle for one of the reasons of R349: its response does not come (a), the token's copy does
not name its age (b), its consumer is not ready (c) or takes a lower slot of the partition (d), the back end is not ready (e);
and no flush reaches it. -/
abbrev Waits (s : State) (i : Nat) : Prop :=
  (s.slot i).occ = true ∧ cancelNow (sample s) i = false ∧
    (((s.slot i).st = .resp ∧ ¬((nextInput s).resp.valid = true ∧ (nextInput s).resp.tag = i))
      ∨ ((s.slot i).st = .idle ∧ (s.slot i).req.cls = .ord
          ∧ ¬(s.regs.tokD1.valid = true ∧ s.regs.tokD1.age = (s.slot i).req.age))
      ∨ ((s.slot i).st = .wb ∧ (s.slot i).req.cls = .ord ∧ (nextInput s).wbOrdReady = false)
      ∨ ((s.slot i).st = .wb ∧ (s.slot i).req.cls = .unord
          ∧ ((nextInput s).wbUnReady.getD (i % (s.cfg.m - 1)) true = false
            ∨ ∃ h, h < i ∧ unWbOn (sample s) (i % (s.cfg.m - 1)) h = true))
      ∨ ((s.slot i).st = .req ∧ (nextInput s).beReqReady = false))

/-- Slot `i` waits under the inputs `x` of every cycle, for a reason of R349 (a), (b), (c) or (e) that lies in them. -/
abbrev WaitsUnder (s : State) (x : Input) (i : Nat) : Prop :=
  (s.slot i).occ = true ∧ x.flush.valid = false ∧
    (((s.slot i).st = .resp ∧ ¬(x.resp.valid = true ∧ x.resp.tag = i))
      ∨ ((s.slot i).st = .idle ∧ (s.slot i).req.cls = .ord
          ∧ ¬(s.regs.tokD1.valid = true ∧ s.regs.tokD1.age = (s.slot i).req.age)
          ∧ ¬(x.tok.valid = true ∧ x.tok.age = (s.slot i).req.age))
      ∨ ((s.slot i).st = .wb ∧ (s.slot i).req.cls = .ord ∧ x.wbOrdReady = false)
      ∨ ((s.slot i).st = .wb ∧ (s.slot i).req.cls = .unord ∧ x.wbUnReady.getD (i % (s.cfg.m - 1)) true = false)
      ∨ ((s.slot i).st = .req ∧ x.beReqReady = false))

/-! ## Words that statements are written in -/

/-- The selector of component `x` picks the operation `i` at this point of the cycle (R98). -/
abbrev Performs (s : State) (x : Site) (i : Instr) : Prop := active s x = true ∧ decode s.cfg x (selector s x) = .ok i

/-- The signals that form the slot selector `SS[i]` (R99). -/
abbrev SlotSignals (s : State) (i : Nat) (st : SlotState) (occ cancel cpend ev en : Bool) : Prop :=
  (s.slot i).st = st ∧ (s.slot i).occ = occ ∧ cancelNow s i = cancel ∧ (s.slot i).cpend = cpend ∧ progress s i = ev
    ∧ enqEn s i = en

/-- The signals that form the admission selector `AS[w]` (R101). -/
abbrev StageSignals (s : State) (w : Nat) (v fh exc replay : Bool) (cls : Cls) : Prop :=
  (s.stage w).v = v ∧ flushHit s w = fh ∧ (s.stage w).c.hasExc = exc ∧ (s.stage w).c.needReplay = replay
    ∧ (s.stage w).c.cls = cls

/-- `i` is the least index below `n` with a property (R9). -/
abbrev LeastIndex (n : Nat) (p : Nat → Bool) (i : Nat) : Prop := i < n ∧ p i = true ∧ ∀ j, j < i → p j = false

/-- How far slot `j` lies behind the pointer in the cyclic order of R234: 0 for the slot right after it. -/
abbrev rrDistance (n last j : Nat) : Nat := (j + n - (last + 1)) % n

/-- `Shape(size, sel)` as numbers (R265 to R273): the low bytes, as a signed number for the signed sizes. -/
abbrev shapedInt (size : SizeCode) (sel : Nat) : Int :=
  if size = 0 then Int.bmod sel (2 ^ 8)
  else if size = 1 then Int.bmod sel (2 ^ 16)
  else if size = 2 then Int.bmod sel (2 ^ 32)
  else if size = 4 then (sel % 2 ^ 8 : Nat)
  else if size = 5 then (sel % 2 ^ 16 : Nat)
  else if size = 6 then (sel % 2 ^ 32 : Nat)
  else (sel : Nat)

/-- The value of a slot's Result: the 64-bit word that stands for the shaped number (R265). -/
abbrev shapedValue (sl : Slot) : Beat :=
  BitVec.ofInt 64 (shapedInt sl.req.size (sl.rdata.toNat / 2 ^ (8 * (sl.req.addr % 8))))

/-- The Result of a slot as R274 writes it. -/
abbrev resultOf (sl : Slot) : Result :=
  { req := { sl.req with fault := sl.req.fault || sl.rerr }, data := shapedValue sl, fault := sl.req.fault || sl.rerr }

/-- The slot at the next boundary, by the priorities of R319 (a): an empty slot takes what it is granted; an occupied one
is cancelled before it progresses, and while it waits for its response the cancel is noted and the free deferred. -/
abbrev nextSlot (sl : Slot) (granted : Option Request) (cancel elig fired wbFired : Bool) (answer : Option (Beat × Bool)) : Slot :=
  if sl.occ = false then
    match granted with
    | some r => { sl with occ := true, st := .idle, req := r, cpend := false }
    | none => sl
  else
    match sl.st with
    | .idle => if cancel then { sl with occ := false } else if elig then { sl with st := .req } else sl
    | .req => if cancel then { sl with occ := false, st := .idle } else if fired then { sl with st := .resp } else sl
    | .resp =>
      match answer with
      | some (d, e) =>
        if cancel || sl.cpend then { sl with occ := false, st := .idle, cpend := false }
        else { sl with st := .wb, rdata := d, rerr := e }
      | none => { sl with cpend := sl.cpend || cancel }
    | .wb => if cancel || wbFired then { sl with occ := false, st := .idle } else sl

/-- Two slots that hold the same: they agree in every field that R341 (a) and (b) let a rule read. -/
abbrev SlotAlike (a b : Slot) : Prop :=
  a.occ = b.occ ∧ a.st = b.st ∧ a.cpend = b.cpend ∧ (a.occ = true → a.req = b.req)
    ∧ (a.st = .wb → a.rdata = b.rdata ∧ a.rerr = b.rerr)

/-- Two age signals that say the same (R341 (d)). -/
abbrev SignalAlike (a b : AgeSignal) : Prop := a.valid = b.valid ∧ (a.valid = true → a.age = b.age)

/-- Two directives that say the same (R341 (e)). -/
abbrev DirectiveAlike (a b : Directive) : Prop := a.v = b.v ∧ (a.v = true → a = b)

/-- Two states that agree in all but the unwritten and stale fields of the registers (R341 (a) to (e)). -/
abbrev Alike (s t : State) : Prop :=
  s.cfg = t.cfg ∧ s.t = t.t ∧ s.script = t.script ∧ s.env = t.env ∧ s.inp = t.inp ∧ s.regs.pool = t.regs.pool
    ∧ s.regs.rrLast = t.regs.rrLast ∧ s.faultMark = t.faultMark ∧ s.refused = t.refused
    ∧ (∀ i, i < s.cfg.n → SlotAlike (s.slot i) (t.slot i))
    ∧ (∀ w, w < s.cfg.w → (s.stage w).v = (t.stage w).v ∧ ((s.stage w).v = true → (s.stage w).c = (t.stage w).c))
    ∧ SignalAlike s.regs.flushD1 t.regs.flushD1 ∧ SignalAlike s.regs.flushD2 t.regs.flushD2
    ∧ SignalAlike s.regs.tokD1 t.regs.tokD1 ∧ DirectiveAlike s.regs.rb t.regs.rb

end Sys2Proof.Machine
end

