-- ==== Sys2Proof/Certificates/Slice0/Obligations.lean ====
section
/-!
DEFINITION. The statements about the block. One operation, one state: the selector's row, then the whole next state, so that
the frame is part of the equation. One cycle, all states: the properties of the spec's last sections. `sample s` is the
state `s` with the inputs of the coming cycle.
-/
open Sys2Proof Sys2Proof.Machine

/-! ## Reset -/

/-- R52. The fields the spec leaves unwritten are left out: their values are the model's choice (log 4). -/
def Obligations.ResetState : Prop :=
  ∀ c : Config,
    (State.resetOf c).regs.slots.length = c.n ∧ (State.resetOf c).regs.pool.length = c.n
      ∧ (State.resetOf c).regs.s2.length = c.w
      ∧ (∀ i, i < c.n → ((State.resetOf c).slot i).occ = false ∧ ((State.resetOf c).slot i).st = .idle
          ∧ ((State.resetOf c).slot i).cpend = false ∧ (State.resetOf c).regs.pool.getD i false = true)
      ∧ (∀ w, w < c.w → ((State.resetOf c).stage w).v = false)
      ∧ (State.resetOf c).regs.rrLast = 0
      ∧ (State.resetOf c).regs.flushD1.valid = false ∧ (State.resetOf c).regs.flushD2.valid = false
      ∧ (State.resetOf c).regs.tokD1.valid = false ∧ (State.resetOf c).regs.rb.v = false
      ∧ Unmarked (State.resetOf c)

/-- The reset state of every admissible configuration has the invariant and no mark, whatever inputs are to come; the
machine's own reset state is the one of the reference configuration (log 1, the model's choice). -/
def Obligations.ResetHasInvariant : Prop :=
  (∀ (c : Config) (script : List Input) (env : Environment), c.ok = true →
      Invariant { State.resetOf c with script := script, env := env }
        ∧ Unmarked { State.resetOf c with script := script, env := env })
    ∧ State.reset = State.resetOf Config.reference ∧ Config.ok Config.reference = true

/-- R340: the outputs of cycle 0, whatever its inputs are. An output that is `none` is one whose `valid` is 0 (log 13). -/
def Obligations.FirstCycleOutputs : Prop :=
  ∀ (c : Config) (script : List Input) (env : Environment), c.ok = true →
    ∃ t, step { State.resetOf c with script := script, env := env } = .next t ∧ t.t = 1
      ∧ (∀ w, w < c.w → t.out.prodReady.getD w false = true ∧ t.out.enq.getD w (some 0) = none
          ∧ t.out.allocReject.getD w true = false ∧ t.out.robAck.getD w (some { age := 0, ident := 0 }) = none)
      ∧ t.out.occupancy = 0 ∧ t.out.capEmpty = false ∧ t.out.respReady = true
      ∧ t.out.beReq = none ∧ t.out.wbOrd = none ∧ (∀ j, j < c.p → t.out.wbUn[j]? = some none)
      ∧ t.out.faultOut = none ∧ t.out.rollback.v = false

/-! ## The signals that the selectors are made of -/

/-- R133, R134, R230, and the offers of R260 and R263: the per-slot conditions in terms of the registers and the inputs. -/
def Obligations.SlotConditions : Prop :=
  ∀ (s : State) (i : Nat),
    (cancelNow s i = true ↔
        (s.slot i).occ = true ∧ s.inp.flush.valid = true ∧ older s.cfg (s.slot i).req.age s.inp.flush.age = false)
    ∧ (elig s i = true ↔ (s.slot i).occ = true ∧ ((s.slot i).req.cls = .unord
        ∨ s.regs.tokD1.valid = true ∧ s.regs.tokD1.age = (s.slot i).req.age))
    ∧ (ordReq s i = true ↔ (s.slot i).st = .req ∧ (s.slot i).req.cls = .ord ∧ elig s i = true ∧ cancelNow s i = false)
    ∧ (unReq s i = true ↔ (s.slot i).st = .req ∧ (s.slot i).req.cls = .unord ∧ cancelNow s i = false)
    ∧ (anyOrd s = true ↔ ∃ k, k < s.cfg.n ∧ ordReq s k = true) ∧ (anyUn s = true ↔ ∃ k, k < s.cfg.n ∧ unReq s k = true)
    ∧ (ordMulti s = true ↔ ∃ k l, k < l ∧ l < s.cfg.n ∧ ordReq s k = true ∧ ordReq s l = true)
    ∧ (ordWb s i = true ↔ (s.slot i).st = .wb ∧ (s.slot i).req.cls = .ord ∧ cancelNow s i = false)
    ∧ (∀ j, unWbOn s j i = true ↔
        (s.slot i).st = .wb ∧ (s.slot i).req.cls = .unord ∧ cancelNow s i = false ∧ i % (s.cfg.m - 1) = j)

/-! ## Operations of a slot -/

/-- R152, R156, R159, R164, R167: an operation that changes nothing. -/
def Obligations.SlotsThatWait : Prop :=
  ∀ (s : State) (i : Nat), i < s.cfg.n →
    (∀ ev, exec (.slotEmpty i ev) s = .next s)
      ∧ exec (.idleWait i) s = .next s ∧ exec (.reqStall i) s = .next s
      ∧ (∀ cpend, exec (.respWait i cpend) s = .next s) ∧ exec (.wbHold i) s = .next s
      ∧ (∀ ev, SlotSignals s i .idle false false false ev false → Performs s ⟨.ss, i⟩ (.slotEmpty i ev))
      ∧ (SlotSignals s i .idle true false false false false → Performs s ⟨.ss, i⟩ (.idleWait i))
      ∧ (SlotSignals s i .req true false false false false → Performs s ⟨.ss, i⟩ (.reqStall i))
      ∧ (∀ cpend, SlotSignals s i .resp true false cpend false false → Performs s ⟨.ss, i⟩ (.respWait i cpend))
      ∧ (SlotSignals s i .wb true false false false false → Performs s ⟨.ss, i⟩ (.wbHold i))

/-- R151: an empty slot takes the Request of the lane that was granted it; `rdata` and `rerr` keep their values. -/
def Obligations.SlotTakesRequest : Prop :=
  ∀ (s : State) (i w : Nat) (ev : Bool), i < s.cfg.n →
    LeastIndex s.cfg.w (fun u => decide (s.out.enq.getD u none = some i)) w →
    exec (.slotEnqWrite i ev) s = .next
        { s with nxt := { s.nxt with slots := s.nxt.slots.modify i fun sl =>
          { sl with occ := true, st := .idle, req := (s.stage w).c.toRequest, cpend := false } } }
      ∧ (SlotSignals s i .idle false false false ev true → Performs s ⟨.ss, i⟩ (.slotEnqWrite i ev))

/-- R155, R158, R162, R163: an occupied slot goes on to its next state, or notes a cancel. -/
def Obligations.SlotProgress : Prop :=
  ∀ (s : State) (i : Nat), i < s.cfg.n →
    exec (.idleIssue i) s = .next
        { s with nxt := { s.nxt with slots := s.nxt.slots.modify i fun sl => { sl with st := .req } } }
      ∧ exec (.reqFire i) s = .next
        { s with nxt := { s.nxt with slots := s.nxt.slots.modify i fun sl => { sl with st := .resp } } }
      ∧ exec (.respCapture i) s = .next
        { s with nxt := { s.nxt with slots := s.nxt.slots.modify i fun sl =>
          { sl with rdata := s.inp.resp.data, rerr := s.inp.resp.err, st := .wb } } }
      ∧ (∀ cpend, exec (.respMarkCancel i cpend) s = .next
        { s with nxt := { s.nxt with slots := s.nxt.slots.modify i fun sl => { sl with cpend := true } } })
      ∧ (SlotSignals s i .idle true false false true false → Performs s ⟨.ss, i⟩ (.idleIssue i))
      ∧ (SlotSignals s i .req true false false true false → Performs s ⟨.ss, i⟩ (.reqFire i))
      ∧ (SlotSignals s i .resp true false false true false → Performs s ⟨.ss, i⟩ (.respCapture i))
      ∧ (∀ cpend, SlotSignals s i .resp true true cpend false false → Performs s ⟨.ss, i⟩ (.respMarkCancel i cpend))

/-- R154, R157, R160, R161, R165, R166, with R168: a slot that frees. What is discarded or accepted stays in the slot as a
stale value. -/
def Obligations.SlotFrees : Prop :=
  ∀ (s : State) (i : Nat), i < s.cfg.n →
    (∀ ev, exec (.idleCancel i ev) s = .next
        { s with nxt := { s.nxt with slots := s.nxt.slots.modify i fun sl => { sl with occ := false } },
                 wires := { s.wires with free := s.wires.free.set i true } })
      ∧ (∀ op ∈ [Instr.reqCancel i false, .reqCancel i true, .wbCancel i false, .wbCancel i true, .wbFire i],
        exec op s = .next
        { s with nxt := { s.nxt with slots := s.nxt.slots.modify i fun sl => { sl with st := .idle, occ := false } },
                 wires := { s.wires with free := s.wires.free.set i true } })
      ∧ (∀ op ∈ [Instr.respDiscardNow i false, .respDiscardNow i true, .respDiscardPending i],
        exec op s = .next
        { s with nxt := { s.nxt with slots := s.nxt.slots.modify i fun sl =>
                   { sl with st := .idle, occ := false, cpend := false } },
                 wires := { s.wires with free := s.wires.free.set i true } })
      ∧ (∀ ev, SlotSignals s i .idle true true false ev false → Performs s ⟨.ss, i⟩ (.idleCancel i ev))
      ∧ (∀ ev, SlotSignals s i .req true true false ev false → Performs s ⟨.ss, i⟩ (.reqCancel i ev))
      ∧ (∀ cpend, SlotSignals s i .resp true true cpend true false → Performs s ⟨.ss, i⟩ (.respDiscardNow i cpend))
      ∧ (SlotSignals s i .resp true false true true false → Performs s ⟨.ss, i⟩ (.respDiscardPending i))
      ∧ (∀ ev, SlotSignals s i .wb true true false ev false → Performs s ⟨.ss, i⟩ (.wbCancel i ev))
      ∧ (SlotSignals s i .wb true false false true false → Performs s ⟨.ss, i⟩ (.wbFire i))

/-- R153, R169: a fault row sets its mark and writes nothing else. -/
def Obligations.SlotFaultRows : Prop :=
  ∀ (s : State) (i : Nat), i < s.cfg.n →
    (∀ st cancel cpend ev,
        exec (.slotResubmitFault i st cancel cpend ev) s = .next
          { s with faultMark := { s.faultMark with illegalResubmit := true } }
        ∧ (SlotSignals s i st true cancel cpend ev true →
          Performs s ⟨.ss, i⟩ (.slotResubmitFault i st cancel cpend ev)))
      ∧ (∀ ss, exec (.slotInvariantFault i ss) s = .next
          { s with faultMark := { s.faultMark with slotInvariant := true } })
      ∧ (∀ st occ cancel cpend ev en, SlotSignals s i st occ cancel cpend ev en → (occ && en) = false →
          (occ = false ∧ (st ≠ .idle ∨ cancel = true ∨ cpend = true) ∨ occ = true ∧ cpend = true ∧ st ≠ .resp) →
          Performs s ⟨.ss, i⟩ (.slotInvariantFault i (BitVec.ofNat 7 (ssWord st occ cancel cpend ev en))))

/-! ## Admission -/

/-- R211, R212, R213: stage 1. A held candidate keeps its value when nothing is captured. -/
def Obligations.SubmitStage : Prop :=
  ∀ (s : State) (w : Nat), w < s.cfg.w →
    exec (.subBad w) s = .next
        { s with refused := { s.refused with badClass := true },
                 nxt := { s.nxt with s2 := s.nxt.s2.modify w fun r => { r with v := false } } }
      ∧ (∀ cls, exec (.subCapture w cls) s = .next
        { s with nxt := { s.nxt with s2 := s.nxt.s2.modify w fun _ => { v := true, c := (s.submission w).cand } } })
      ∧ (∀ cls, exec (.subNone w cls) s = .next
        { s with nxt := { s.nxt with s2 := s.nxt.s2.modify w fun r => { r with v := false } } })
      ∧ (∀ cls, (s.submission w).cand.cls = cls →
          ((s.submission w).valid = true → cls = .rsvd → Performs s ⟨.sub, w⟩ (.subBad w))
          ∧ ((s.submission w).valid = true → cls ≠ .rsvd → Performs s ⟨.sub, w⟩ (.subCapture w cls))
          ∧ ((s.submission w).valid = false → Performs s ⟨.sub, w⟩ (.subNone w cls)))

/-- R215 to R222: stage 2. Every operation sets the lane's enqueue request, and only the reserved class sets a mark. -/
def Obligations.AdmissionStage : Prop :=
  ∀ (s : State) (w : Nat), w < s.cfg.w →
    (∀ op ∈ [Instr.admEnqOrd w, .admEnqUnord w],
        exec op s = .next { s with wires := { s.wires with enqReq := s.wires.enqReq.set w true } })
      ∧ exec (.admUntracked w) s = .next { s with wires := { s.wires with enqReq := s.wires.enqReq.set w false } }
      ∧ (∀ fh exc replay cls,
          exec (.admBadClass w fh exc replay) s = .next
            { s with refused := { s.refused with badClass := true },
                     wires := { s.wires with enqReq := s.wires.enqReq.set w false } }
          ∧ ∀ op ∈ [Instr.admNone w fh exc replay cls, .admFlushed w exc replay cls, .admExc w replay cls, .admReplay w cls],
            exec op s = .next { s with wires := { s.wires with enqReq := s.wires.enqReq.set w false } })
      ∧ (∀ fh exc replay cls,
          (StageSignals s w false fh exc replay cls → Performs s ⟨.adm, w⟩ (.admNone w fh exc replay cls))
          ∧ (StageSignals s w true fh exc replay .rsvd → Performs s ⟨.adm, w⟩ (.admBadClass w fh exc replay))
          ∧ (cls ≠ .rsvd →
            (StageSignals s w true true exc replay cls → Performs s ⟨.adm, w⟩ (.admFlushed w exc replay cls))
            ∧ (StageSignals s w true false true replay cls → Performs s ⟨.adm, w⟩ (.admExc w replay cls))
            ∧ (StageSignals s w true false false true cls → Performs s ⟨.adm, w⟩ (.admReplay w cls))))
      ∧ (StageSignals s w true false false false .none → Performs s ⟨.adm, w⟩ (.admUntracked w))
      ∧ (StageSignals s w true false false false .ord → Performs s ⟨.adm, w⟩ (.admEnqOrd w))
      ∧ (StageSignals s w true false false false .unord → Performs s ⟨.adm, w⟩ (.admEnqUnord w))

/-! ## Allocation -/

/-- R192, R193, R197: the operations of a lane. The index of a grant is a free one, whatever the draw. -/
def Obligations.AllocationOperations : Prop :=
  ∀ (s : State) (w : Nat), w < s.cfg.w →
    (countBelow w (enqReq s) < s.regs.pool.count true →
        ∃ idx, pick s.inp.draw s.regs.pool (countBelow w (enqReq s)) = some idx ∧ idx < s.regs.pool.length
          ∧ s.regs.pool.getD idx false = true
          ∧ exec (.allocGrant w) s = .next
            { s with out := { s.out with enq := s.out.enq.set w (some idx), allocReject := s.out.allocReject.set w false } })
      ∧ exec (.allocReject w) s = .next
          { s with out := { s.out with enq := s.out.enq.set w none, allocReject := s.out.allocReject.set w true } }
      ∧ (∀ can, exec (.allocNone w can) s = .next
          { s with out := { s.out with enq := s.out.enq.set w none, allocReject := s.out.allocReject.set w false } })
      ∧ (enqReq s w = true → countBelow w (enqReq s) < s.regs.pool.count true → Performs s ⟨.al, w⟩ (.allocGrant w))
      ∧ (enqReq s w = true → s.regs.pool.count true ≤ countBelow w (enqReq s) → Performs s ⟨.al, w⟩ (.allocReject w))
      ∧ (enqReq s w = false →
          Performs s ⟨.al, w⟩ (.allocNone w (decide (countBelow w (enqReq s) < s.regs.pool.count true))))

/-! ## Arbitration -/

/-- R231, R232, R238: the least eligible ordered request is offered with the message of R235 and, on a ready channel, handed
off; the pointer does not move. More than one sets the mark first. -/
def Obligations.OrderedArbitration : Prop :=
  ∀ (s : State) (g : Nat), LeastIndex s.cfg.n (ordReq s) g →
    (∀ anyUn, exec (.arbOrdFire anyUn) s = .next
        { s with out := { s.out with beReq := some (beReq s g) }, wires := { s.wires with fire := s.wires.fire.set g true } })
      ∧ (∀ anyUn, exec (.arbOrdStall anyUn) s = .next { s with out := { s.out with beReq := some (beReq s g) } })
      ∧ (∀ anyUn, exec (.arbOrdMultiFault anyUn true) s = .next
        { s with faultMark := { s.faultMark with ordMulti := true }, out := { s.out with beReq := some (beReq s g) },
                 wires := { s.wires with fire := s.wires.fire.set g true } })
      ∧ (∀ anyUn, exec (.arbOrdMultiFault anyUn false) s = .next
        { s with faultMark := { s.faultMark with ordMulti := true }, out := { s.out with beReq := some (beReq s g) } })
      ∧ ((∃ h, h ≠ g ∧ h < s.cfg.n ∧ ordReq s h = true) →
          Performs s ⟨.ar, 0⟩ (.arbOrdMultiFault (anyUn s) s.inp.beReqReady))
      ∧ ((∀ h, h < s.cfg.n → ordReq s h = true → h = g) →
          Performs s ⟨.ar, 0⟩ (if s.inp.beReqReady then .arbOrdFire (anyUn s) else .arbOrdStall (anyUn s)))

/-- R239, R240, R233, R241: with no eligible ordered request, the round-robin choice `g` (R234) is offered and, on a ready
channel, handed off, and only then the pointer moves to it; with no request at all, nothing is offered. -/
def Obligations.UnorderedArbitration : Prop :=
  ∀ s : State,
    (∀ g, roundRobin s.cfg.n s.regs.rrLast (unReq s) = some g →
      (∀ multi, exec (.arbUnordFire multi) s = .next
          { s with out := { s.out with beReq := some (beReq s g) }, wires := { s.wires with fire := s.wires.fire.set g true },
                   nxt := { s.nxt with rrLast := g } })
        ∧ (∀ multi, exec (.arbUnordStall multi) s = .next { s with out := { s.out with beReq := some (beReq s g) } })
        ∧ ((∀ h, h < s.cfg.n → ordReq s h = false) →
          Performs s ⟨.ar, 0⟩ (if s.inp.beReqReady then .arbUnordFire false else .arbUnordStall false)))
      ∧ (∀ ready multi, exec (.arbIdle ready multi) s = .next { s with out := { s.out with beReq := none } })
      ∧ ((∀ h, h < s.cfg.n → ordReq s h = false ∧ unReq s h = false) →
          Performs s ⟨.ar, 0⟩ (.arbIdle s.inp.beReqReady false))

/-- R235, R236, R94: the message of slot `g`. -/
def Obligations.ForwardedMessage : Prop :=
  ∀ (s : State) (g : Nat),
    beReq s g =
        { addr := (s.slot g).req.addr,
          mask8 := if (s.slot g).req.addr / 8 % 2 = 1 then BitVec.ofNat 8 ((s.slot g).req.mask.toNat / 2 ^ 8)
            else BitVec.ofNat 8 (s.slot g).req.mask.toNat,
          cmd := s.cfg.cmdRead, tag := g, atomic := (s.slot g).req.atomic }
      ∧ (g < s.cfg.n → exec (.beRead g) s = .next { s with out := { s.out with beReq := some (beReq s g) } })
      ∧ (g < s.cfg.n → s.cfg.cmdRead < 2 ^ s.cfg.cmdW → s.out.beReq = some (beReq s g) → Performs s ⟨.be, g⟩ (.beRead g))

/-! ## Responses -/

/-- R252, R253, R254: the response reaches the slot its tag names, if that slot awaits one, and no other. -/
def Obligations.ResponseOperations : Prop :=
  ∀ s : State,
    (s.inp.resp.tag < s.cfg.n → exec .respDeliver s = .next
        { s with wires := { s.wires with respHit := (List.replicate s.cfg.n false).set s.inp.resp.tag true } })
      ∧ exec .respStale s = .next
        { s with faultMark := { s.faultMark with staleResponse := true },
                 wires := { s.wires with respHit := List.replicate s.cfg.n false } }
      ∧ (∀ aw, exec (.respNone aw) s = .next { s with wires := { s.wires with respHit := List.replicate s.cfg.n false } })
      ∧ (s.inp.resp.valid = true → s.inp.resp.tag < s.cfg.n → (s.slot s.inp.resp.tag).st = .resp →
          Performs s ⟨.rs, 0⟩ .respDeliver)
      ∧ (s.inp.resp.valid = true → ¬(s.inp.resp.tag < s.cfg.n ∧ (s.slot s.inp.resp.tag).st = .resp) →
          Performs s ⟨.rs, 0⟩ .respStale)
      ∧ (s.inp.resp.valid = false → Performs s ⟨.rs, 0⟩ (.respNone (awaiting s)))

/-! ## Writeback -/

/-- R265 to R273: the shaped value of an offered slot, by its size; the reserved size sets the mark too. `shapedInt` says
the value as a number: the selected bytes, signed or not. -/
def Obligations.OutputShaping : Prop :=
  ∀ (s : State) (i : Nat), i < s.cfg.n →
    (∀ p ∈ [(Instr.szLb i, (0 : SizeCode)), (.szLh i, 1), (.szLw i, 2), (.szLd i, 3), (.szLbu i, 4), (.szLhu i, 5),
        (.szLwu i, 6)],
      exec p.1 s = .next { s with wires := { s.wires with shaped := s.wires.shaped.set i (BitVec.ofInt 64
          (shapedInt p.2 ((s.slot i).rdata.toNat / 2 ^ (8 * ((s.slot i).req.addr % 8))))) } }
        ∧ (offered s i = true → (s.slot i).req.size = p.2 → Performs s ⟨.sz, i⟩ p.1))
      ∧ exec (.szRsv i) s = .next
        { s with refused := { s.refused with badSize := true },
                 wires := { s.wires with shaped := s.wires.shaped.set i (BitVec.ofInt 64
          (shapedInt 7 ((s.slot i).rdata.toNat / 2 ^ (8 * ((s.slot i).req.addr % 8))))) } }
      ∧ (offered s i = true → (s.slot i).req.size = 7 → Performs s ⟨.sz, i⟩ (.szRsv i))

/-- R260, R261, R262, R276, R277: the ordered port. `res` is the Result with the value that the slot's shaping formed. -/
def Obligations.OrderedWriteback : Prop :=
  ∀ s : State,
    (∀ o, LeastIndex s.cfg.n (ordWb s) o →
      let out := { s.out with wbOrd := some (res s o), wbOrdRaw := some { data := (s.slot o).rdata, req := (s.slot o).req } }
      exec .wbOrdFire s = .next { s with out := out, wires := { s.wires with wbFire := s.wires.wbFire.set o true } }
        ∧ exec .wbOrdHold s = .next { s with out := out }
        ∧ (∀ any, exec (.wbOrdMultiFault any true) s = .next
          { s with faultMark := { s.faultMark with wbOrdMulti := true }, out := out,
                   wires := { s.wires with wbFire := s.wires.wbFire.set o true } })
        ∧ (∀ any, exec (.wbOrdMultiFault any false) s = .next
          { s with faultMark := { s.faultMark with wbOrdMulti := true }, out := out })
        ∧ ((∃ h, h ≠ o ∧ h < s.cfg.n ∧ ordWb s h = true) →
          Performs s ⟨.wo, 0⟩ (.wbOrdMultiFault true s.inp.wbOrdReady))
        ∧ ((∀ h, h < s.cfg.n → ordWb s h = true → h = o) →
          Performs s ⟨.wo, 0⟩ (if s.inp.wbOrdReady then .wbOrdFire else .wbOrdHold)))
      ∧ (∀ ready, exec (.wbOrdNone ready) s = .next { s with out := { s.out with wbOrd := none, wbOrdRaw := none } })
      ∧ ((∀ h, h < s.cfg.n → ordWb s h = false) → Performs s ⟨.wo, 0⟩ (.wbOrdNone s.inp.wbOrdReady))

/-- R263, R264, R278, R279: an unordered port serves the least completed slot of its partition. -/
def Obligations.UnorderedWriteback : Prop :=
  ∀ (s : State) (j : Nat), j < s.cfg.p →
    (∀ u, LeastIndex s.cfg.n (unWbOn s j) u →
      let out := { s.out with wbUn := s.out.wbUn.set j (some (res s u)) }
      exec (.wbUnFire j) s = .next { s with out := out, wires := { s.wires with wbFire := s.wires.wbFire.set u true } }
        ∧ exec (.wbUnHold j) s = .next { s with out := out }
        ∧ Performs s ⟨.wu, j⟩ (if s.inp.wbUnReady.getD j true then .wbUnFire j else .wbUnHold j))
      ∧ (∀ ready, exec (.wbUnNone j ready) s = .next { s with out := { s.out with wbUn := s.out.wbUn.set j none } })
      ∧ ((∀ h, h < s.cfg.n → unWbOn s j h = false) → Performs s ⟨.wu, j⟩ (.wbUnNone j (s.inp.wbUnReady.getD j true)))

/-- R280, R281: the least slot that is accepted with a back-end error is reported, its Request's fault set. -/
def Obligations.FaultReporting : Prop :=
  ∀ s : State,
    (∀ f, LeastIndex s.cfg.n (fun i => s.wires.wbFire.getD i false && (s.slot i).rerr) f →
      exec .faultReport s = .next { s with out := { s.out with faultOut := some { (s.slot f).req with fault := true } } }
        ∧ Performs s ⟨.fo, 0⟩ .faultReport)
      ∧ exec .faultNone s = .next { s with out := { s.out with faultOut := none } }
      ∧ ((∀ i, i < s.cfg.n → (s.wires.wbFire.getD i false && (s.slot i).rerr) = false) → Performs s ⟨.fo, 0⟩ .faultNone)

/-! ## Rollback -/

/-- R290 to R294, R296, R297: the oldest rejected candidate, the lowest lane among equal ages, becomes the directive unless a
flush check hits it; two oldest ones set the mark. A register that is not armed keeps its other fields. -/
def Obligations.RollbackOperations : Prop :=
  ∀ s : State,
    (∀ w, rbOldest s w = true ↔ (enqReq s w = true ∧ s.out.enq.getD w none = none ∧
        ∀ u, u < s.cfg.w → u ≠ w → enqReq s u = true → s.out.enq.getD u none = none →
          older s.cfg (s.stage u).c.age (s.stage w).c.age = false))
      ∧ (∀ e, LeastIndex s.cfg.w (rbOldest s) e →
        let armed : State := { s with nxt := { s.nxt with rb :=
          { v := true, age := (s.stage e).c.age, restart := (s.stage e).c.restart } } }
        let disarmed : State := { s with nxt := { s.nxt with rb := { s.nxt.rb with v := false } } }
        let now := hit s.cfg (s.stage e).c.age s.inp.flush
        let d1 := hit s.cfg (s.stage e).c.age s.regs.flushD1
        let d2 := hit s.cfg (s.stage e).c.age s.regs.flushD2
        exec .rbArm s = .next armed
          ∧ (∀ a b c, exec (.rbTieFault a b c) s = .next
            { (if a || b || c then disarmed else armed) with faultMark := { s.faultMark with ageTie := true } })
          ∧ ((∃ h, h ≠ e ∧ h < s.cfg.w ∧ rbOldest s h = true) → Performs s ⟨.rb, 0⟩ (.rbTieFault now d1 d2))
          ∧ ((∀ h, h < s.cfg.w → rbOldest s h = true → h = e) →
            Performs s ⟨.rb, 0⟩ (if now || d1 || d2 then .rbSuppress now d1 d2 else .rbArm)))
      ∧ (∀ a b c, exec (.rbSuppress a b c) s = .next { s with nxt := { s.nxt with rb := { s.nxt.rb with v := false } } })
      ∧ (∀ tie a b c, exec (.rbNone tie a b c) s = .next
          { s with nxt := { s.nxt with rb := { s.nxt.rb with v := false } } })
      ∧ ((∀ w, w < s.cfg.w → enqReq s w = true → s.out.enq.getD w none ≠ none) →
          Performs s ⟨.rb, 0⟩ (.rbNone false false false false))

/-! ## Stops -/

/-- The model's choice (log 12): an operation on a slot, a lane or a port that the block does not have stops by name. No step
gets there (`EveryStepCompletes`). -/
def Obligations.MissingComponentsStop : Prop :=
  ∀ (s : State) (a b c : Bool) (st : SlotState) (cls : Cls),
    (∀ i, s.cfg.n ≤ i → ∀ ss, ∀ op ∈ [Instr.slotResubmitFault i st a b c, .slotEmpty i a, .slotEnqWrite i a, .idleCancel i a,
        .idleIssue i, .idleWait i, .reqCancel i a, .reqFire i, .reqStall i, .respDiscardNow i a, .respDiscardPending i,
        .respCapture i, .respMarkCancel i a, .respWait i a, .wbCancel i a, .wbFire i, .wbHold i, .slotInvariantFault i ss,
        .szLb i, .szLh i, .szLw i, .szLd i, .szLbu i, .szLhu i, .szLwu i, .szRsv i, .beRead i],
        exec op s = .fault (.noSuchSlot i))
      ∧ (∀ w, s.cfg.w ≤ w → ∀ op ∈ [Instr.subBad w, .subCapture w cls, .subNone w cls, .admNone w a b c cls,
        .admBadClass w a b c, .admFlushed w a b cls, .admExc w a cls, .admReplay w cls, .admUntracked w, .admEnqOrd w,
        .admEnqUnord w, .allocGrant w, .allocReject w, .allocNone w a], exec op s = .fault (.noSuchLane w))
      ∧ (∀ j, s.cfg.p ≤ j → ∀ op ∈ [Instr.wbUnFire j, .wbUnHold j, .wbUnNone j a], exec op s = .fault (.noSuchPort j))
      ∧ (s.cfg.n ≤ s.inp.resp.tag → exec .respDeliver s = .fault (.noSuchSlot s.inp.resp.tag))

/-- The model's choice (log 12): an operation whose rule takes the least element of a set stops by name where that set is
empty, and a grant or an enqueue write where there is nothing to grant. Its selector is never chosen there. -/
def Obligations.EmptyChoicesStop : Prop :=
  ∀ (s : State) (a b c : Bool),
    ((∀ i, i < s.cfg.n → ordReq s i = false) →
        ∀ op ∈ [Instr.arbOrdFire a, .arbOrdStall a, .arbOrdMultiFault a b], exec op s = .fault .emptyChoice)
      ∧ ((∀ i, i < s.cfg.n → unReq s i = false) →
        ∀ op ∈ [Instr.arbUnordFire a, .arbUnordStall a], exec op s = .fault .emptyChoice)
      ∧ ((∀ i, i < s.cfg.n → ordWb s i = false) →
        ∀ op ∈ [Instr.wbOrdFire, .wbOrdHold, .wbOrdMultiFault a b], exec op s = .fault .emptyChoice)
      ∧ (∀ j, j < s.cfg.p → (∀ i, i < s.cfg.n → unWbOn s j i = false) →
        ∀ op ∈ [Instr.wbUnFire j, .wbUnHold j], exec op s = .fault .emptyChoice)
      ∧ ((∀ i, i < s.cfg.n → (s.wires.wbFire.getD i false && (s.slot i).rerr) = false) →
        exec .faultReport s = .fault .emptyChoice)
      ∧ ((∀ w, w < s.cfg.w → rbOldest s w = false) → ∀ op ∈ [Instr.rbArm, .rbTieFault a b c], exec op s = .fault .emptyChoice)
      ∧ (∀ i, i < s.cfg.n → (∀ w, w < s.cfg.w → s.out.enq.getD w none ≠ some i) →
        exec (.slotEnqWrite i a) s = .fault .emptyChoice)
      ∧ (∀ w, w < s.cfg.w → s.regs.pool.count true ≤ countBelow w (enqReq s) → exec (.allocGrant w) s = .fault .emptyChoice)

/-! ## Encoding -/

/-- Words written out from the selector layouts of R99 to R109, one of each table. -/
def Obligations.DecodedWords : Prop :=
  decode Config.reference ⟨.ss, 1⟩ 0b1010110 = .ok (.respDiscardPending 1)
    ∧ decode Config.reference ⟨.ss, 3⟩ 0b0011010 = .ok (.idleCancel 3 true)
    ∧ decode Config.reference ⟨.sub, 0⟩ 0b101 = .ok (.subCapture 0 .ord)
    ∧ decode Config.reference ⟨.adm, 2⟩ 0b101110 = .ok (.admExc 2 true .unord)
    ∧ decode Config.reference ⟨.al, 1⟩ 0b10 = .ok (.allocReject 1)
    ∧ decode Config.reference ⟨.ar, 0⟩ 0b1110 = .ok (.arbOrdFire true)
    ∧ decode Config.reference ⟨.rs, 0⟩ 0b10 = .ok .respStale
    ∧ decode Config.reference ⟨.wo, 0⟩ 0b010 = .ok .wbOrdHold
    ∧ decode Config.reference ⟨.wu, 1⟩ 0b11 = .ok (.wbUnFire 1)
    ∧ decode Config.reference ⟨.sz, 0⟩ 0b101 = .ok (.szLhu 0)
    ∧ decode Config.reference ⟨.fo, 0⟩ 0b1 = .ok .faultReport
    ∧ decode Config.reference ⟨.rb, 0⟩ 0b10001 = .ok (.rbSuppress false false true)
    ∧ decode Config.reference ⟨.be, 2⟩ 0b00000 = .ok (.beRead 2)

/-- Decoding an encoded operation gives it back, for every operation of every block. -/
def Obligations.DecodeOfEncode : Prop :=
  ∀ (c : Config) (i : Instr), c.ok = true → WellFormed c i = true → decode c (encode c i).1 (encode c i).2 = .ok i

/-- Every selector has one meaning: what a selector decodes to is well-formed and is encoded as that selector of that
component, so no bit of a selector is dropped. -/
def Obligations.EncodeOfDecode : Prop :=
  ∀ (c : Config) (x : Site) (w : Nat) (i : Instr), c.ok = true → decode c x w = .ok i →
    WellFormed c i = true ∧ encode c i = (x, w)

/-- R98: every selector table is total, and the first row that matches is the one performed. The row numbers are those of
R99 to R108, from 0. At the arbiter selectors 0x5 and 0x7 that row (5 and 4 of R103, from 1) is the model's choice (log 19):
the last sentence of R103 gives these two words, which no cycle forms, to row 6. -/
def Obligations.TablesAreTotal : Prop :=
  ∀ (c : Config) (x : Site) (w : Nat), x.table ≠ .be → x.idx < tableCount c x.table → w < 2 ^ tableWidth c x.table →
    ∃ i, decode c x w = .ok i ∧ rowIndex i < (tableRows c x.table).length
      ∧ (∃ r, (tableRows c x.table)[rowIndex i]? = some r ∧ w &&& r.1 = r.2)
      ∧ ∀ k, k < rowIndex i → ∀ r, (tableRows c x.table)[k]? = some r → w &&& r.1 ≠ r.2

/-- R95, R96: the packed messages hold their fields, and nothing else fits in their width. -/
def Obligations.MessagesRoundTrip : Prop :=
  ∀ c : Config,
    (∀ m : BeReq, m.addr < 2 ^ c.paddrBits → m.cmd < 2 ^ c.cmdW → m.tag < 2 ^ c.idxW →
        beReqFields c (beReqWord c m) = m ∧ beReqWord c m < 2 ^ (c.paddrBits + 9 + c.cmdW + c.idxW))
      ∧ (∀ w, w < 2 ^ (c.paddrBits + 9 + c.cmdW + c.idxW) → beReqWord c (beReqFields c w) = w)
      ∧ (∀ r : Response, r.valid = true → r.tag < 2 ^ c.idxW →
        beRespFields c (beRespWord r) = r ∧ beRespWord r < 2 ^ (65 + c.idxW))
      ∧ (∀ w, w < 2 ^ (65 + c.idxW) → beRespWord (beRespFields c w) = w)

/-! ## The step -/

/-- When the components before `x` have brought the cycle to `m`, and the selector of `x` decodes to `i`, the cycle goes on
with `exec i` at `m` (the selector noted in the trace), then the components after `x`, then the boundary. R98 and R135 say
which operations a cycle performs; that it runs them one after another along `schedule`, with a trace, is the model's choice
(log 7), and so is the order inside the phases D and F (log 11). -/
def Obligations.StepRunsTheDecodedOperation : Prop :=
  ∀ (s m : State) (pre post : List Site) (x : Site) (i : Instr),
    schedule s.cfg = pre ++ x :: post → runSites pre (sample s) = .next m → Performs m x i →
    step s =
      match exec i { m with trace := m.trace ++ [(x, selector m x)] } with
      | .next m' =>
        match runSites post m' with
        | .next e => .next (commit e)
        | .fault f => .fault f
        | .refused r => .refused r
      | .fault f => .fault f
      | .refused r => .refused r

/-- R137: the step answers a next state from every state, marked or not, whatever the registers hold, the inputs are and the
draw is. The premise is that the read command fits its field (R94). -/
def Obligations.EveryStepCompletes : Prop :=
  ∀ s : State, s.cfg.cmdRead < 2 ^ s.cfg.cmdW → ∃ t, step s = .next t

/-- The invariant of the registers (R36, R41, R42, R91) is kept by every step from every state that has it. -/
def Obligations.StepKeepsInvariant : Prop := ∀ s t : State, Invariant s → step s = .next t → Invariant t

/-- R36, R41: in every state reached from reset, under any inputs and any draws, every slot is sound, the pool is the set of
the empty slots, and the free and the occupied slots are `N` together. -/
def Obligations.ReachableStatesAreSound : Prop :=
  ∀ s : State, Reachable s →
    (∀ i, i < s.cfg.n → ((s.slot i).st ≠ .idle → (s.slot i).occ = true)
        ∧ ((s.slot i).cpend = true → (s.slot i).st = .resp) ∧ ((s.slot i).occ = false → (s.slot i).cpend = false))
      ∧ (∀ i, i < s.cfg.n → (s.regs.pool.getD i false = true ↔ (s.slot i).occ = false))
      ∧ s.regs.pool.count true + countBelow s.cfg.n (fun i => (s.slot i).occ) = s.cfg.n

/-- R45, R46, R11: the history registers, the cycle count and the parameters. The other clauses are of the model's own fields
and the model's choice: the script moves on by one line and the environment stays (log 5), `inp` keeps the sampled inputs and
`nxt` is equal to the registers at a boundary (log 7). -/
def Obligations.HistoryAndToken : Prop :=
  ∀ s t : State, step s = .next t →
    t.regs.flushD1 = (nextInput s).flush ∧ t.regs.flushD2 = s.regs.flushD1 ∧ t.regs.tokD1 = (nextInput s).tok
      ∧ t.inp = nextInput s ∧ t.script = s.script.tail ∧ t.t = s.t + 1 ∧ t.cfg = s.cfg ∧ t.nxt = t.regs
      ∧ t.env = s.env

/-- R48, R138: a mark, once set, stays. -/
def Obligations.MarksOnlyGrow : Prop :=
  ∀ s t : State, step s = .next t →
    (∀ r, s.faultMark.has r = true → t.faultMark.has r = true) ∧ (∀ r, s.refused.has r = true → t.refused.has r = true)

/-- R210, R224, R250, R295: the outputs that no operation chooses. -/
def Obligations.FixedOutputs : Prop :=
  ∀ s t : State, step s = .next t →
    t.out.respReady = true ∧ t.out.rollback = s.regs.rb
      ∧ ∀ w, w < s.cfg.w → t.out.prodReady.getD w false = true
        ∧ t.out.robAck[w]? = some (if (s.stage w).v && decide ((s.stage w).c.cls = .ord) then
            some { age := (s.stage w).c.age, ident := (s.stage w).c.ident } else none)

/-- R196 and R41: the occupancy is both `N` less the free indices and the number of occupied slots, of the state at the start
of the cycle. -/
def Obligations.OccupancyOutputs : Prop :=
  ∀ s t : State, Invariant s → step s = .next t →
    t.out.occupancy = s.cfg.n - s.regs.pool.count true
      ∧ t.out.occupancy = countBelow s.cfg.n (fun i => (s.slot i).occ)
      ∧ s.regs.pool.count true + countBelow s.cfg.n (fun i => (s.slot i).occ) = s.cfg.n
      ∧ (t.out.capEmpty = true ↔ s.regs.pool.count true = 0)

/-- R211, R212, R213 in the step: what a stage register holds at the next boundary. The first clause is the model's choice
(log 3): a submission is cut at the port, so its address has the `PADDR_BITS` bits of R32 and R49. -/
def Obligations.StageAfterCycle : Prop :=
  ∀ s t : State, Invariant s → step s = .next t → ∀ w, w < s.cfg.w →
    ((sample s).submission w).cand.addr < 2 ^ s.cfg.paddrBits ∧
    t.stage w =
      if ((sample s).submission w).valid then
        if ((sample s).submission w).cand.cls = .rsvd then { s.stage w with v := false }
        else { v := true, c := ((sample s).submission w).cand }
      else { s.stage w with v := false }

/-- R223: a candidate becomes an enqueue request only if it passes every check of stage 2. -/
def Obligations.EnqueueRequests : Prop :=
  ∀ s t : State, step s = .next t → ∀ w, w < s.cfg.w →
    t.wires.enqReq.getD w false =
      ((s.stage w).v && !(hit s.cfg (s.stage w).c.age s.regs.flushD1 || hit s.cfg (s.stage w).c.age (nextInput s).flush)
        && !(s.stage w).c.hasExc && !(s.stage w).c.needReplay
        && (decide ((s.stage w).c.cls = .ord) || decide ((s.stage w).c.cls = .unord)))

/-- R190, R191, R198 (a) and (b): the first lanes in lane order, as many as there are free slots, are granted, each another
free index; the others are rejected. -/
def Obligations.GrantsInLaneOrder : Prop :=
  ∀ s t : State, step s = .next t → ∀ w, w < s.cfg.w →
    ((∃ idx, t.out.enq.getD w none = some idx) ↔
        t.wires.enqReq.getD w false = true ∧
          countBelow w (fun u => t.wires.enqReq.getD u false) < s.regs.pool.count true)
      ∧ (t.out.allocReject.getD w false = true ↔
        t.wires.enqReq.getD w false = true ∧ t.out.enq.getD w none = none)
      ∧ (∀ idx, t.out.enq.getD w none = some idx → idx < s.regs.pool.length ∧ s.regs.pool.getD idx false = true
        ∧ ∀ u, u < s.cfg.w → t.out.enq.getD u none = some idx → u = w)

/-- R194, R168, R343: an index leaves the pool when it is granted and enters it when its slot frees, at the next boundary. -/
def Obligations.PoolUpdate : Prop :=
  ∀ s t : State, Invariant s → step s = .next t → ∀ i, i < s.cfg.n →
    (t.regs.pool.getD i false = true ↔
        s.regs.pool.getD i false = true ∧ (∀ w, w < s.cfg.w → t.out.enq.getD w none ≠ some i)
          ∨ t.wires.free.getD i false = true)
      ∧ (t.wires.free.getD i false = true ↔ (s.slot i).occ = true ∧ (t.slot i).occ = false)

/-- R195: every draw gives distinct free indices; the empty draw is the reference draw, lowest first; and every order of the
free indices is some draw's, so that a statement for every draw is a statement for every lawful one (log 6). -/
def Obligations.DrawsAreLawful : Prop :=
  ∀ pool : List Bool,
    (∀ draw k, (k < pool.count true ↔ (pick draw pool k).isSome = true)
        ∧ (∀ i, pick draw pool k = some i → pool.getD i false = true)
        ∧ ∀ k' i, pick draw pool k = some i → pick draw pool k' = some i → k = k')
      ∧ (∀ k i, pick [] pool k = some i ↔ pool.getD i false = true ∧ countBelow i (fun j => pool.getD j false) = k)
      ∧ (∀ order : List Nat, order.Perm ((List.range pool.length).filter fun i => pool.getD i false) →
        ∃ draw, ∀ k, pick draw pool k = order[k]?)

/-- R237, R242 (a) and (b): one handoff at most, of the slot on the channel, on a ready channel; and no unordered slot while an
ordered one is eligible. -/
def Obligations.OneHandoff : Prop :=
  ∀ s t : State, step s = .next t →
    (∀ i, i < s.cfg.n → (t.wires.fire.getD i false = true ↔
        (nextInput s).beReqReady = true ∧ ∃ m, t.out.beReq = some m ∧ m.tag = i))
      ∧ (∀ i j, t.wires.fire.getD i false = true → t.wires.fire.getD j false = true → i = j)
      ∧ (∀ i h, t.wires.fire.getD i false = true → (s.slot i).req.cls = .unord → h < s.cfg.n →
        ordReq (sample s) h = false)

/-- R230 to R233, R239 to R241 in the step: which message is on the channel, and where the pointer is afterwards. -/
def Obligations.ArbiterOffer : Prop :=
  ∀ s t : State, step s = .next t →
    (∀ g, LeastIndex s.cfg.n (ordReq (sample s)) g → t.out.beReq = some (beReq s g) ∧ t.regs.rrLast = s.regs.rrLast)
      ∧ ((∀ h, h < s.cfg.n → ordReq (sample s) h = false) →
        (∀ g, roundRobin s.cfg.n s.regs.rrLast (unReq (sample s)) = some g →
          t.out.beReq = some (beReq s g)
            ∧ t.regs.rrLast = if (nextInput s).beReqReady then g else s.regs.rrLast)
        ∧ ((∀ h, h < s.cfg.n → unReq (sample s) h = false) → t.out.beReq = none ∧ t.regs.rrLast = s.regs.rrLast))

/-- R234, R242 (c): the choice is the requester that follows the pointer most closely in cyclic order, and it brings the
pointer strictly closer to every other requester, so that one of `n` handoffs is its own. -/
def Obligations.RoundRobinIsFair : Prop :=
  ∀ (n last : Nat) (r : Nat → Bool), last < n →
    ((roundRobin n last r).isSome = true ↔ ∃ i, i < n ∧ r i = true)
      ∧ ∀ g, roundRobin n last r = some g → g < n ∧ r g = true
        ∧ ∀ j, j < n → r j = true → rrDistance n last g ≤ rrDistance n last j
          ∧ (j ≠ g → rrDistance n g j < rrDistance n last j)

/-- R251: the delivery vector of the cycle. -/
def Obligations.DeliveryVector : Prop :=
  ∀ s t : State, step s = .next t → ∀ i, i < s.cfg.n →
    (t.wires.respHit.getD i false = true ↔
      (nextInput s).resp.valid = true ∧ (nextInput s).resp.tag = i ∧ (s.slot i).st = .resp)

/-- R255: "the response side is exclusively consumed by the one matching slot". Two cycles that differ in the data and the
error flag of the response only differ in the slot its tag names, and in no output, mark or other register. -/
def Obligations.ResponseStaysInItsSlot : Prop :=
  ∀ (s t : State) (line : Input) (rest : List Input) (data : Beat) (err : Bool),
    s.script = line :: rest → step s = .next t →
    ∃ t', step { s with script := { line with resp := { line.resp with data := data, err := err } } :: rest } = .next t'
      ∧ t'.out = t.out ∧ t'.faultMark = t.faultMark ∧ t'.refused = t.refused ∧ t'.trace = t.trace
      ∧ { t'.regs with slots := t.regs.slots } = t.regs
      ∧ ∀ i, i ≠ line.resp.tag % 2 ^ s.cfg.idxW → t'.slot i = t.slot i

/-- R253: a response sets the mark `StaleResponse` exactly when its tag names no slot that awaits one; so a channel that keeps
its contract never does. The contract R342 (d) is a property of a history of handoffs and responses; the premise
`ChannelInOrder`, of the coming response alone, is the model's reading of it (log 16, DEDUCED). -/
def Obligations.StaleResponses : Prop :=
  ∀ s t : State, step s = .next t →
    (t.faultMark.staleResponse = true ↔ s.faultMark.staleResponse = true ∨
        (nextInput s).resp.valid = true ∧
          ¬((nextInput s).resp.tag < s.cfg.n ∧ (s.slot (nextInput s).resp.tag).st = .resp))
      ∧ (ChannelInOrder s → t.faultMark.staleResponse = s.faultMark.staleResponse)

/-- The whole next-state function of the slots (R150 to R169, in the order of R319 (a)), against one definition by cases:
what a slot was granted, whether it is cancelled, and its progress event. -/
def Obligations.SlotAfterCycle : Prop :=
  ∀ s t : State, Invariant s → step s = .next t → ∀ i, i < s.cfg.n →
    ∃ granted : Option Request,
      (∀ w, w < s.cfg.w → t.out.enq.getD w none = some i → granted = some (s.stage w).c.toRequest)
        ∧ ((∀ w, w < s.cfg.w → t.out.enq.getD w none ≠ some i) → granted = none)
        ∧ t.slot i = nextSlot (s.slot i) granted (cancelNow (sample s) i) (elig (sample s) i) (t.wires.fire.getD i false)
            (t.wires.wbFire.getD i false)
            (if (nextInput s).resp.valid ∧ (nextInput s).resp.tag = i then
              some ((nextInput s).resp.data, (nextInput s).resp.err) else none)

/-- R171 (c), R163, R161: a slot that is cancelled while its response is out stays occupied, its index out of the pool, until
the response comes; it then frees and its data is not taken. -/
def Obligations.DeferredFree : Prop :=
  ∀ s t : State, Invariant s → step s = .next t → ∀ i, i < s.cfg.n → (s.slot i).st = .resp →
    ((s.slot i).cpend = true ∨ cancelNow (sample s) i = true) →
    (¬((nextInput s).resp.valid = true ∧ (nextInput s).resp.tag = i) →
        t.slot i = { s.slot i with cpend := true } ∧ t.regs.pool.getD i false = false)
      ∧ ((nextInput s).resp.valid = true → (nextInput s).resp.tag = i →
        t.slot i = { s.slot i with occ := false, st := .idle, cpend := false } ∧ t.regs.pool.getD i false = true)

/-- R260, R261, R263, R264, R274, R276 to R279 in the step: what each port carries, by value. -/
def Obligations.PortsCarryResults : Prop :=
  ∀ s t : State, Invariant s → step s = .next t →
    (∀ o, LeastIndex s.cfg.n (ordWb (sample s)) o →
        t.out.wbOrd = some (resultOf (s.slot o)) ∧ t.out.wbOrdRaw = some { data := (s.slot o).rdata, req := (s.slot o).req })
      ∧ ((∀ i, i < s.cfg.n → ordWb (sample s) i = false) → t.out.wbOrd = none)
      ∧ ∀ j, j < s.cfg.m - 1 →
        (∀ u, LeastIndex s.cfg.n (unWbOn (sample s) j) u → t.out.wbUn[j]? = some (some (resultOf (s.slot u))))
          ∧ ((∀ i, i < s.cfg.n → unWbOn (sample s) j i = false) → t.out.wbUn[j]? = some none)

/-- R275, R282 (a): a slot is accepted exactly when its own port offers it and the consumer is ready; a slot flushed in the
cycle is not. -/
def Obligations.Acceptance : Prop :=
  ∀ s t : State, Invariant s → step s = .next t → ∀ i, i < s.cfg.n →
    (t.wires.wbFire.getD i false = true ↔
        (nextInput s).wbOrdReady = true ∧ LeastIndex s.cfg.n (ordWb (sample s)) i
          ∨ (nextInput s).wbUnReady.getD (i % (s.cfg.m - 1)) true = true
            ∧ LeastIndex s.cfg.n (unWbOn (sample s) (i % (s.cfg.m - 1))) i)
      ∧ (t.wires.wbFire.getD i false = true → (s.slot i).st = .wb ∧ cancelNow (sample s) i = false)

/-- R280, R281, R312 (b), R314: the fault output reports the lowest accepted slot with a back-end error, and nothing else: not
a fault the producer set, not a slot that is held or flushed. -/
def Obligations.FaultOutput : Prop :=
  ∀ s t : State, step s = .next t →
    (∀ f, LeastIndex s.cfg.n (fun i => t.wires.wbFire.getD i false && (s.slot i).rerr) f →
        t.out.faultOut = some { (s.slot f).req with fault := true })
      ∧ ((∀ i, i < s.cfg.n → t.wires.wbFire.getD i false = true → (s.slot i).rerr = false) → t.out.faultOut = none)

/-- R290, R294, R296, R297, R298 (a) and (b): with distinct ages, the oldest rejected candidate becomes the directive of the next
cycle, unless the flush of this cycle or of the two before hits it. -/
def Obligations.OldestIsRolledBack : Prop :=
  ∀ s t : State, step s = .next t →
    ((∀ w, w < s.cfg.w → t.out.allocReject.getD w false = false) → t.regs.rb = { s.regs.rb with v := false })
      ∧ ∀ e, e < s.cfg.w → t.out.allocReject.getD e false = true →
        (∀ u, u < s.cfg.w → u ≠ e → t.out.allocReject.getD u false = true →
          older s.cfg (s.stage e).c.age (s.stage u).c.age = true) →
        t.regs.rb =
            if hit s.cfg (s.stage e).c.age (nextInput s).flush || hit s.cfg (s.stage e).c.age s.regs.flushD1
                || hit s.cfg (s.stage e).c.age s.regs.flushD2 then { s.regs.rb with v := false }
            else { v := true, age := (s.stage e).c.age, restart := (s.stage e).c.restart }

/-- R298 (c): a rejected candidate is never hit by the flush of this cycle or of the one before, so the directive is
suppressed by `flush_d2` only. -/
def Obligations.OnlyTheOldestFlushSuppresses : Prop :=
  ∀ s t : State, step s = .next t → ∀ w, w < s.cfg.w → t.out.allocReject.getD w false = true →
    hit s.cfg (s.stage w).c.age (nextInput s).flush = false ∧ hit s.cfg (s.stage w).c.age s.regs.flushD1 = false

/-- R342, the row "none needed", and R91: from a state of the invariant, no step sets `IllegalResubmit` or `SlotInvariant`,
and `BadClass` is set exactly by a submission with the reserved code. -/
def Obligations.UnreachableFaults : Prop :=
  ∀ s t : State, Invariant s → step s = .next t →
    t.faultMark.illegalResubmit = s.faultMark.illegalResubmit ∧ t.faultMark.slotInvariant = s.faultMark.slotInvariant
      ∧ (t.refused.badClass = true ↔ s.refused.badClass = true ∨
        ∃ w, w < s.cfg.w ∧ ((sample s).submission w).valid = true ∧ ((sample s).submission w).cand.cls = .rsvd)

/-- R342 (a) and (b), R350: with unique ages, one token names at most one ordered Request, so no two are eligible, and no two
rejected candidates tie. -/
def Obligations.UniqueAgesExcludeTies : Prop :=
  ∀ s t : State, Invariant s → AgesUnique s → step s = .next t →
    t.faultMark.ordMulti = s.faultMark.ordMulti ∧ t.faultMark.ageTie = s.faultMark.ageTie

/-- R350: "at most one ordered Request is in flight at a time". With unique ages (R342 (a)), where the one in flight is the
oldest ordered one held, and the token's copy names none behind one in flight, the next cycle has at most one in flight too,
and `WbOrdMulti` is not set. Two premises are the model's reading of R342 (c) and not its words (log 16, DEDUCED).
`TokenInOrder` is of `tok_d1` at this cycle, while (c) is of the token input one cycle before: an older Request may have gone
from `IDLE` to `REQ` in between, so that (c) does not give it. `OrderedHead` is needed because (c) lets the token name an older
Request that is still in `IDLE`. -/
def Obligations.OrderedExclusivity : Prop :=
  ∀ s t : State, Invariant s → AgesUnique s → OrderedHead s → TokenInOrder s s.regs.tokD1 → step s = .next t →
    t.faultMark.wbOrdMulti = s.faultMark.wbOrdMulti
      ∧ ∀ i, i < s.cfg.n → ∀ j, j < s.cfg.n →
        (t.slot i).occ = true → (t.slot i).req.cls = .ord → (t.slot i).st ≠ .idle →
        (t.slot j).occ = true → (t.slot j).req.cls = .ord → (t.slot j).st ≠ .idle → i = j

/-- R262 and R273: when the other two marks of the writeback are set. -/
def Obligations.WritebackMarks : Prop :=
  ∀ s t : State, Invariant s → step s = .next t →
    (t.faultMark.wbOrdMulti = true ↔ s.faultMark.wbOrdMulti = true ∨
        ∃ i j, i < j ∧ j < s.cfg.n ∧ ordWb (sample s) i = true ∧ ordWb (sample s) j = true)
      ∧ (t.refused.badSize = true ↔ s.refused.badSize = true ∨
        ∃ i, i < s.cfg.n ∧ (s.slot i).req.size = 7 ∧
          (LeastIndex s.cfg.n (ordWb (sample s)) i ∨ LeastIndex s.cfg.n (unWbOn (sample s) (i % (s.cfg.m - 1))) i))

/-- R341: no rule reads an unwritten field. Two states that agree in every field a rule may read step to two such states and
drive the same outputs, so that no statement about the block can rest on the values chosen at reset (log 4). -/
def Obligations.UnwrittenFieldsDoNotMatter : Prop :=
  ∀ s s' t : State, Invariant s → Invariant s' → Alike s s' → step s = .next t →
    ∃ t', step s' = .next t' ∧ Alike t t' ∧ { t.out with rollback := t'.out.rollback } = t'.out
      ∧ DirectiveAlike t.out.rollback t'.out.rollback

/-- R349: the block has no timeout. A slot that waits in each of `k` cycles, under whatever inputs, for any of the reasons (a)
to (e), is after them as it was. And where the inputs `x` repeat without end (log 5) and leave it waiting for the reason (a),
(b), (c) or (e), it waits through every number of cycles. -/
def Obligations.WaitingIsUnbounded : Prop :=
  ∀ (s : State) (i : Nat), Invariant s → i < s.cfg.n →
    (∀ k, (∀ j, j < k → ∀ u, runCycles j s = some u → Waits u i) → ∃ t, runCycles k s = some t ∧ t.slot i = s.slot i)
      ∧ ∀ x : Input, s.script = [] → s.env = .again [x] → WaitsUnder s (x.onPorts s.cfg) i →
        ∀ k, ∃ t, runCycles k s = some t ∧ t.slot i = s.slot i
end

