-- ==== Sys2Proof/Laws/State.lean ====
section
/-!
SUPPORT. What each named operation does to each field of the state, one lemma a field, so that no proof unfolds a record
update; and that no operation moves the start-of-cycle view of the slots, stages and submissions.
-/
namespace Sys2Proof.Machine

@[simp] theorem State.raise_cfg (s : State) (r : FaultReason) : (s.raise r).cfg = s.cfg := rfl
@[simp] theorem State.raise_t (s : State) (r : FaultReason) : (s.raise r).t = s.t := rfl
@[simp] theorem State.raise_regs (s : State) (r : FaultReason) : (s.raise r).regs = s.regs := rfl
@[simp] theorem State.raise_nxt (s : State) (r : FaultReason) : (s.raise r).nxt = s.nxt := rfl
@[simp] theorem State.raise_faultMark (s : State) (r : FaultReason) : (s.raise r).faultMark = s.faultMark.add r := rfl
@[simp] theorem State.raise_refused (s : State) (r : FaultReason) : (s.raise r).refused = s.refused := rfl
@[simp] theorem State.raise_inp (s : State) (r : FaultReason) : (s.raise r).inp = s.inp := rfl
@[simp] theorem State.raise_out (s : State) (r : FaultReason) : (s.raise r).out = s.out := rfl
@[simp] theorem State.raise_wires (s : State) (r : FaultReason) : (s.raise r).wires = s.wires := rfl
@[simp] theorem State.raise_trace (s : State) (r : FaultReason) : (s.raise r).trace = s.trace := rfl
@[simp] theorem State.raise_script (s : State) (r : FaultReason) : (s.raise r).script = s.script := rfl
@[simp] theorem State.raise_env (s : State) (r : FaultReason) : (s.raise r).env = s.env := rfl
@[simp] theorem State.raise_slot (s : State) (r : FaultReason) (k : Nat) : (s.raise r).slot k = s.slot k := rfl
@[simp] theorem State.raise_stage (s : State) (r : FaultReason) (k : Nat) : (s.raise r).stage k = s.stage k := rfl

@[simp] theorem State.refuse_cfg (s : State) (r : RefusalReason) : (s.refuse r).cfg = s.cfg := rfl
@[simp] theorem State.refuse_t (s : State) (r : RefusalReason) : (s.refuse r).t = s.t := rfl
@[simp] theorem State.refuse_regs (s : State) (r : RefusalReason) : (s.refuse r).regs = s.regs := rfl
@[simp] theorem State.refuse_nxt (s : State) (r : RefusalReason) : (s.refuse r).nxt = s.nxt := rfl
@[simp] theorem State.refuse_faultMark (s : State) (r : RefusalReason) : (s.refuse r).faultMark = s.faultMark := rfl
@[simp] theorem State.refuse_refused (s : State) (r : RefusalReason) : (s.refuse r).refused = s.refused.add r := rfl
@[simp] theorem State.refuse_inp (s : State) (r : RefusalReason) : (s.refuse r).inp = s.inp := rfl
@[simp] theorem State.refuse_out (s : State) (r : RefusalReason) : (s.refuse r).out = s.out := rfl
@[simp] theorem State.refuse_wires (s : State) (r : RefusalReason) : (s.refuse r).wires = s.wires := rfl
@[simp] theorem State.refuse_trace (s : State) (r : RefusalReason) : (s.refuse r).trace = s.trace := rfl
@[simp] theorem State.refuse_script (s : State) (r : RefusalReason) : (s.refuse r).script = s.script := rfl
@[simp] theorem State.refuse_env (s : State) (r : RefusalReason) : (s.refuse r).env = s.env := rfl
@[simp] theorem State.refuse_slot (s : State) (r : RefusalReason) (k : Nat) : (s.refuse r).slot k = s.slot k := rfl
@[simp] theorem State.refuse_stage (s : State) (r : RefusalReason) (k : Nat) : (s.refuse r).stage k = s.stage k := rfl

@[simp] theorem State.writeSlot_cfg (s : State) (i : Nat) (f : Slot → Slot) : (s.writeSlot i f).cfg = s.cfg := rfl
@[simp] theorem State.writeSlot_t (s : State) (i : Nat) (f : Slot → Slot) : (s.writeSlot i f).t = s.t := rfl
@[simp] theorem State.writeSlot_regs (s : State) (i : Nat) (f : Slot → Slot) : (s.writeSlot i f).regs = s.regs := rfl
@[simp] theorem State.writeSlot_nxt (s : State) (i : Nat) (f : Slot → Slot) : (s.writeSlot i f).nxt = { s.nxt with slots := s.nxt.slots.modify i f } := rfl
@[simp] theorem State.writeSlot_faultMark (s : State) (i : Nat) (f : Slot → Slot) : (s.writeSlot i f).faultMark = s.faultMark := rfl
@[simp] theorem State.writeSlot_refused (s : State) (i : Nat) (f : Slot → Slot) : (s.writeSlot i f).refused = s.refused := rfl
@[simp] theorem State.writeSlot_inp (s : State) (i : Nat) (f : Slot → Slot) : (s.writeSlot i f).inp = s.inp := rfl
@[simp] theorem State.writeSlot_out (s : State) (i : Nat) (f : Slot → Slot) : (s.writeSlot i f).out = s.out := rfl
@[simp] theorem State.writeSlot_wires (s : State) (i : Nat) (f : Slot → Slot) : (s.writeSlot i f).wires = s.wires := rfl
@[simp] theorem State.writeSlot_trace (s : State) (i : Nat) (f : Slot → Slot) : (s.writeSlot i f).trace = s.trace := rfl
@[simp] theorem State.writeSlot_script (s : State) (i : Nat) (f : Slot → Slot) : (s.writeSlot i f).script = s.script := rfl
@[simp] theorem State.writeSlot_env (s : State) (i : Nat) (f : Slot → Slot) : (s.writeSlot i f).env = s.env := rfl
@[simp] theorem State.writeSlot_slot (s : State) (i : Nat) (f : Slot → Slot) (k : Nat) : (s.writeSlot i f).slot k = s.slot k := rfl
@[simp] theorem State.writeSlot_stage (s : State) (i : Nat) (f : Slot → Slot) (k : Nat) : (s.writeSlot i f).stage k = s.stage k := rfl

@[simp] theorem State.writeStage_cfg (s : State) (w : Nat) (f : Stage → Stage) : (s.writeStage w f).cfg = s.cfg := rfl
@[simp] theorem State.writeStage_t (s : State) (w : Nat) (f : Stage → Stage) : (s.writeStage w f).t = s.t := rfl
@[simp] theorem State.writeStage_regs (s : State) (w : Nat) (f : Stage → Stage) : (s.writeStage w f).regs = s.regs := rfl
@[simp] theorem State.writeStage_nxt (s : State) (w : Nat) (f : Stage → Stage) : (s.writeStage w f).nxt = { s.nxt with s2 := s.nxt.s2.modify w f } := rfl
@[simp] theorem State.writeStage_faultMark (s : State) (w : Nat) (f : Stage → Stage) : (s.writeStage w f).faultMark = s.faultMark := rfl
@[simp] theorem State.writeStage_refused (s : State) (w : Nat) (f : Stage → Stage) : (s.writeStage w f).refused = s.refused := rfl
@[simp] theorem State.writeStage_inp (s : State) (w : Nat) (f : Stage → Stage) : (s.writeStage w f).inp = s.inp := rfl
@[simp] theorem State.writeStage_out (s : State) (w : Nat) (f : Stage → Stage) : (s.writeStage w f).out = s.out := rfl
@[simp] theorem State.writeStage_wires (s : State) (w : Nat) (f : Stage → Stage) : (s.writeStage w f).wires = s.wires := rfl
@[simp] theorem State.writeStage_trace (s : State) (w : Nat) (f : Stage → Stage) : (s.writeStage w f).trace = s.trace := rfl
@[simp] theorem State.writeStage_script (s : State) (w : Nat) (f : Stage → Stage) : (s.writeStage w f).script = s.script := rfl
@[simp] theorem State.writeStage_env (s : State) (w : Nat) (f : Stage → Stage) : (s.writeStage w f).env = s.env := rfl
@[simp] theorem State.writeStage_slot (s : State) (w : Nat) (f : Stage → Stage) (k : Nat) : (s.writeStage w f).slot k = s.slot k := rfl
@[simp] theorem State.writeStage_stage (s : State) (w : Nat) (f : Stage → Stage) (k : Nat) : (s.writeStage w f).stage k = s.stage k := rfl

@[simp] theorem State.writeRrLast_cfg (s : State) (g : Nat) : (s.writeRrLast g).cfg = s.cfg := rfl
@[simp] theorem State.writeRrLast_t (s : State) (g : Nat) : (s.writeRrLast g).t = s.t := rfl
@[simp] theorem State.writeRrLast_regs (s : State) (g : Nat) : (s.writeRrLast g).regs = s.regs := rfl
@[simp] theorem State.writeRrLast_nxt (s : State) (g : Nat) : (s.writeRrLast g).nxt = { s.nxt with rrLast := g } := rfl
@[simp] theorem State.writeRrLast_faultMark (s : State) (g : Nat) : (s.writeRrLast g).faultMark = s.faultMark := rfl
@[simp] theorem State.writeRrLast_refused (s : State) (g : Nat) : (s.writeRrLast g).refused = s.refused := rfl
@[simp] theorem State.writeRrLast_inp (s : State) (g : Nat) : (s.writeRrLast g).inp = s.inp := rfl
@[simp] theorem State.writeRrLast_out (s : State) (g : Nat) : (s.writeRrLast g).out = s.out := rfl
@[simp] theorem State.writeRrLast_wires (s : State) (g : Nat) : (s.writeRrLast g).wires = s.wires := rfl
@[simp] theorem State.writeRrLast_trace (s : State) (g : Nat) : (s.writeRrLast g).trace = s.trace := rfl
@[simp] theorem State.writeRrLast_script (s : State) (g : Nat) : (s.writeRrLast g).script = s.script := rfl
@[simp] theorem State.writeRrLast_env (s : State) (g : Nat) : (s.writeRrLast g).env = s.env := rfl
@[simp] theorem State.writeRrLast_slot (s : State) (g : Nat) (k : Nat) : (s.writeRrLast g).slot k = s.slot k := rfl
@[simp] theorem State.writeRrLast_stage (s : State) (g : Nat) (k : Nat) : (s.writeRrLast g).stage k = s.stage k := rfl

@[simp] theorem State.writeRb_cfg (s : State) (d : Directive) : (s.writeRb d).cfg = s.cfg := rfl
@[simp] theorem State.writeRb_t (s : State) (d : Directive) : (s.writeRb d).t = s.t := rfl
@[simp] theorem State.writeRb_regs (s : State) (d : Directive) : (s.writeRb d).regs = s.regs := rfl
@[simp] theorem State.writeRb_nxt (s : State) (d : Directive) : (s.writeRb d).nxt = { s.nxt with rb := d } := rfl
@[simp] theorem State.writeRb_faultMark (s : State) (d : Directive) : (s.writeRb d).faultMark = s.faultMark := rfl
@[simp] theorem State.writeRb_refused (s : State) (d : Directive) : (s.writeRb d).refused = s.refused := rfl
@[simp] theorem State.writeRb_inp (s : State) (d : Directive) : (s.writeRb d).inp = s.inp := rfl
@[simp] theorem State.writeRb_out (s : State) (d : Directive) : (s.writeRb d).out = s.out := rfl
@[simp] theorem State.writeRb_wires (s : State) (d : Directive) : (s.writeRb d).wires = s.wires := rfl
@[simp] theorem State.writeRb_trace (s : State) (d : Directive) : (s.writeRb d).trace = s.trace := rfl
@[simp] theorem State.writeRb_script (s : State) (d : Directive) : (s.writeRb d).script = s.script := rfl
@[simp] theorem State.writeRb_env (s : State) (d : Directive) : (s.writeRb d).env = s.env := rfl
@[simp] theorem State.writeRb_slot (s : State) (d : Directive) (k : Nat) : (s.writeRb d).slot k = s.slot k := rfl
@[simp] theorem State.writeRb_stage (s : State) (d : Directive) (k : Nat) : (s.writeRb d).stage k = s.stage k := rfl

@[simp] theorem State.setEnqReq_cfg (s : State) (w : Nat) (b : Bool) : (s.setEnqReq w b).cfg = s.cfg := rfl
@[simp] theorem State.setEnqReq_t (s : State) (w : Nat) (b : Bool) : (s.setEnqReq w b).t = s.t := rfl
@[simp] theorem State.setEnqReq_regs (s : State) (w : Nat) (b : Bool) : (s.setEnqReq w b).regs = s.regs := rfl
@[simp] theorem State.setEnqReq_nxt (s : State) (w : Nat) (b : Bool) : (s.setEnqReq w b).nxt = s.nxt := rfl
@[simp] theorem State.setEnqReq_faultMark (s : State) (w : Nat) (b : Bool) : (s.setEnqReq w b).faultMark = s.faultMark := rfl
@[simp] theorem State.setEnqReq_refused (s : State) (w : Nat) (b : Bool) : (s.setEnqReq w b).refused = s.refused := rfl
@[simp] theorem State.setEnqReq_inp (s : State) (w : Nat) (b : Bool) : (s.setEnqReq w b).inp = s.inp := rfl
@[simp] theorem State.setEnqReq_out (s : State) (w : Nat) (b : Bool) : (s.setEnqReq w b).out = s.out := rfl
@[simp] theorem State.setEnqReq_wires (s : State) (w : Nat) (b : Bool) : (s.setEnqReq w b).wires = { s.wires with enqReq := s.wires.enqReq.set w b } := rfl
@[simp] theorem State.setEnqReq_trace (s : State) (w : Nat) (b : Bool) : (s.setEnqReq w b).trace = s.trace := rfl
@[simp] theorem State.setEnqReq_script (s : State) (w : Nat) (b : Bool) : (s.setEnqReq w b).script = s.script := rfl
@[simp] theorem State.setEnqReq_env (s : State) (w : Nat) (b : Bool) : (s.setEnqReq w b).env = s.env := rfl
@[simp] theorem State.setEnqReq_slot (s : State) (w : Nat) (b : Bool) (k : Nat) : (s.setEnqReq w b).slot k = s.slot k := rfl
@[simp] theorem State.setEnqReq_stage (s : State) (w : Nat) (b : Bool) (k : Nat) : (s.setEnqReq w b).stage k = s.stage k := rfl

@[simp] theorem State.setShaped_cfg (s : State) (i : Nat) (d : Beat) : (s.setShaped i d).cfg = s.cfg := rfl
@[simp] theorem State.setShaped_t (s : State) (i : Nat) (d : Beat) : (s.setShaped i d).t = s.t := rfl
@[simp] theorem State.setShaped_regs (s : State) (i : Nat) (d : Beat) : (s.setShaped i d).regs = s.regs := rfl
@[simp] theorem State.setShaped_nxt (s : State) (i : Nat) (d : Beat) : (s.setShaped i d).nxt = s.nxt := rfl
@[simp] theorem State.setShaped_faultMark (s : State) (i : Nat) (d : Beat) : (s.setShaped i d).faultMark = s.faultMark := rfl
@[simp] theorem State.setShaped_refused (s : State) (i : Nat) (d : Beat) : (s.setShaped i d).refused = s.refused := rfl
@[simp] theorem State.setShaped_inp (s : State) (i : Nat) (d : Beat) : (s.setShaped i d).inp = s.inp := rfl
@[simp] theorem State.setShaped_out (s : State) (i : Nat) (d : Beat) : (s.setShaped i d).out = s.out := rfl
@[simp] theorem State.setShaped_wires (s : State) (i : Nat) (d : Beat) : (s.setShaped i d).wires = { s.wires with shaped := s.wires.shaped.set i d } := rfl
@[simp] theorem State.setShaped_trace (s : State) (i : Nat) (d : Beat) : (s.setShaped i d).trace = s.trace := rfl
@[simp] theorem State.setShaped_script (s : State) (i : Nat) (d : Beat) : (s.setShaped i d).script = s.script := rfl
@[simp] theorem State.setShaped_env (s : State) (i : Nat) (d : Beat) : (s.setShaped i d).env = s.env := rfl
@[simp] theorem State.setShaped_slot (s : State) (i : Nat) (d : Beat) (k : Nat) : (s.setShaped i d).slot k = s.slot k := rfl
@[simp] theorem State.setShaped_stage (s : State) (i : Nat) (d : Beat) (k : Nat) : (s.setShaped i d).stage k = s.stage k := rfl

@[simp] theorem State.setFire_cfg (s : State) (i : Nat) : (s.setFire i).cfg = s.cfg := rfl
@[simp] theorem State.setFire_t (s : State) (i : Nat) : (s.setFire i).t = s.t := rfl
@[simp] theorem State.setFire_regs (s : State) (i : Nat) : (s.setFire i).regs = s.regs := rfl
@[simp] theorem State.setFire_nxt (s : State) (i : Nat) : (s.setFire i).nxt = s.nxt := rfl
@[simp] theorem State.setFire_faultMark (s : State) (i : Nat) : (s.setFire i).faultMark = s.faultMark := rfl
@[simp] theorem State.setFire_refused (s : State) (i : Nat) : (s.setFire i).refused = s.refused := rfl
@[simp] theorem State.setFire_inp (s : State) (i : Nat) : (s.setFire i).inp = s.inp := rfl
@[simp] theorem State.setFire_out (s : State) (i : Nat) : (s.setFire i).out = s.out := rfl
@[simp] theorem State.setFire_wires (s : State) (i : Nat) : (s.setFire i).wires = { s.wires with fire := s.wires.fire.set i true } := rfl
@[simp] theorem State.setFire_trace (s : State) (i : Nat) : (s.setFire i).trace = s.trace := rfl
@[simp] theorem State.setFire_script (s : State) (i : Nat) : (s.setFire i).script = s.script := rfl
@[simp] theorem State.setFire_env (s : State) (i : Nat) : (s.setFire i).env = s.env := rfl
@[simp] theorem State.setFire_slot (s : State) (i : Nat) (k : Nat) : (s.setFire i).slot k = s.slot k := rfl
@[simp] theorem State.setFire_stage (s : State) (i : Nat) (k : Nat) : (s.setFire i).stage k = s.stage k := rfl

@[simp] theorem State.setRespHit_cfg (s : State) (i : Nat) : (s.setRespHit i).cfg = s.cfg := rfl
@[simp] theorem State.setRespHit_t (s : State) (i : Nat) : (s.setRespHit i).t = s.t := rfl
@[simp] theorem State.setRespHit_regs (s : State) (i : Nat) : (s.setRespHit i).regs = s.regs := rfl
@[simp] theorem State.setRespHit_nxt (s : State) (i : Nat) : (s.setRespHit i).nxt = s.nxt := rfl
@[simp] theorem State.setRespHit_faultMark (s : State) (i : Nat) : (s.setRespHit i).faultMark = s.faultMark := rfl
@[simp] theorem State.setRespHit_refused (s : State) (i : Nat) : (s.setRespHit i).refused = s.refused := rfl
@[simp] theorem State.setRespHit_inp (s : State) (i : Nat) : (s.setRespHit i).inp = s.inp := rfl
@[simp] theorem State.setRespHit_out (s : State) (i : Nat) : (s.setRespHit i).out = s.out := rfl
@[simp] theorem State.setRespHit_wires (s : State) (i : Nat) : (s.setRespHit i).wires = { s.wires with respHit := (List.replicate s.cfg.n false).set i true } := rfl
@[simp] theorem State.setRespHit_trace (s : State) (i : Nat) : (s.setRespHit i).trace = s.trace := rfl
@[simp] theorem State.setRespHit_script (s : State) (i : Nat) : (s.setRespHit i).script = s.script := rfl
@[simp] theorem State.setRespHit_env (s : State) (i : Nat) : (s.setRespHit i).env = s.env := rfl
@[simp] theorem State.setRespHit_slot (s : State) (i : Nat) (k : Nat) : (s.setRespHit i).slot k = s.slot k := rfl
@[simp] theorem State.setRespHit_stage (s : State) (i : Nat) (k : Nat) : (s.setRespHit i).stage k = s.stage k := rfl

@[simp] theorem State.clearRespHit_cfg (s : State) : (s.clearRespHit).cfg = s.cfg := rfl
@[simp] theorem State.clearRespHit_t (s : State) : (s.clearRespHit).t = s.t := rfl
@[simp] theorem State.clearRespHit_regs (s : State) : (s.clearRespHit).regs = s.regs := rfl
@[simp] theorem State.clearRespHit_nxt (s : State) : (s.clearRespHit).nxt = s.nxt := rfl
@[simp] theorem State.clearRespHit_faultMark (s : State) : (s.clearRespHit).faultMark = s.faultMark := rfl
@[simp] theorem State.clearRespHit_refused (s : State) : (s.clearRespHit).refused = s.refused := rfl
@[simp] theorem State.clearRespHit_inp (s : State) : (s.clearRespHit).inp = s.inp := rfl
@[simp] theorem State.clearRespHit_out (s : State) : (s.clearRespHit).out = s.out := rfl
@[simp] theorem State.clearRespHit_wires (s : State) : (s.clearRespHit).wires = { s.wires with respHit := List.replicate s.cfg.n false } := rfl
@[simp] theorem State.clearRespHit_trace (s : State) : (s.clearRespHit).trace = s.trace := rfl
@[simp] theorem State.clearRespHit_script (s : State) : (s.clearRespHit).script = s.script := rfl
@[simp] theorem State.clearRespHit_env (s : State) : (s.clearRespHit).env = s.env := rfl
@[simp] theorem State.clearRespHit_slot (s : State) (k : Nat) : (s.clearRespHit).slot k = s.slot k := rfl
@[simp] theorem State.clearRespHit_stage (s : State) (k : Nat) : (s.clearRespHit).stage k = s.stage k := rfl

@[simp] theorem State.setWbFire_cfg (s : State) (i : Nat) : (s.setWbFire i).cfg = s.cfg := rfl
@[simp] theorem State.setWbFire_t (s : State) (i : Nat) : (s.setWbFire i).t = s.t := rfl
@[simp] theorem State.setWbFire_regs (s : State) (i : Nat) : (s.setWbFire i).regs = s.regs := rfl
@[simp] theorem State.setWbFire_nxt (s : State) (i : Nat) : (s.setWbFire i).nxt = s.nxt := rfl
@[simp] theorem State.setWbFire_faultMark (s : State) (i : Nat) : (s.setWbFire i).faultMark = s.faultMark := rfl
@[simp] theorem State.setWbFire_refused (s : State) (i : Nat) : (s.setWbFire i).refused = s.refused := rfl
@[simp] theorem State.setWbFire_inp (s : State) (i : Nat) : (s.setWbFire i).inp = s.inp := rfl
@[simp] theorem State.setWbFire_out (s : State) (i : Nat) : (s.setWbFire i).out = s.out := rfl
@[simp] theorem State.setWbFire_wires (s : State) (i : Nat) : (s.setWbFire i).wires = { s.wires with wbFire := s.wires.wbFire.set i true } := rfl
@[simp] theorem State.setWbFire_trace (s : State) (i : Nat) : (s.setWbFire i).trace = s.trace := rfl
@[simp] theorem State.setWbFire_script (s : State) (i : Nat) : (s.setWbFire i).script = s.script := rfl
@[simp] theorem State.setWbFire_env (s : State) (i : Nat) : (s.setWbFire i).env = s.env := rfl
@[simp] theorem State.setWbFire_slot (s : State) (i : Nat) (k : Nat) : (s.setWbFire i).slot k = s.slot k := rfl
@[simp] theorem State.setWbFire_stage (s : State) (i : Nat) (k : Nat) : (s.setWbFire i).stage k = s.stage k := rfl

@[simp] theorem State.setFree_cfg (s : State) (i : Nat) : (s.setFree i).cfg = s.cfg := rfl
@[simp] theorem State.setFree_t (s : State) (i : Nat) : (s.setFree i).t = s.t := rfl
@[simp] theorem State.setFree_regs (s : State) (i : Nat) : (s.setFree i).regs = s.regs := rfl
@[simp] theorem State.setFree_nxt (s : State) (i : Nat) : (s.setFree i).nxt = s.nxt := rfl
@[simp] theorem State.setFree_faultMark (s : State) (i : Nat) : (s.setFree i).faultMark = s.faultMark := rfl
@[simp] theorem State.setFree_refused (s : State) (i : Nat) : (s.setFree i).refused = s.refused := rfl
@[simp] theorem State.setFree_inp (s : State) (i : Nat) : (s.setFree i).inp = s.inp := rfl
@[simp] theorem State.setFree_out (s : State) (i : Nat) : (s.setFree i).out = s.out := rfl
@[simp] theorem State.setFree_wires (s : State) (i : Nat) : (s.setFree i).wires = { s.wires with free := s.wires.free.set i true } := rfl
@[simp] theorem State.setFree_trace (s : State) (i : Nat) : (s.setFree i).trace = s.trace := rfl
@[simp] theorem State.setFree_script (s : State) (i : Nat) : (s.setFree i).script = s.script := rfl
@[simp] theorem State.setFree_env (s : State) (i : Nat) : (s.setFree i).env = s.env := rfl
@[simp] theorem State.setFree_slot (s : State) (i : Nat) (k : Nat) : (s.setFree i).slot k = s.slot k := rfl
@[simp] theorem State.setFree_stage (s : State) (i : Nat) (k : Nat) : (s.setFree i).stage k = s.stage k := rfl

@[simp] theorem State.driveEnq_cfg (s : State) (w : Nat) (x : Option Nat) (b : Bool) : (s.driveEnq w x b).cfg = s.cfg := rfl
@[simp] theorem State.driveEnq_t (s : State) (w : Nat) (x : Option Nat) (b : Bool) : (s.driveEnq w x b).t = s.t := rfl
@[simp] theorem State.driveEnq_regs (s : State) (w : Nat) (x : Option Nat) (b : Bool) : (s.driveEnq w x b).regs = s.regs := rfl
@[simp] theorem State.driveEnq_nxt (s : State) (w : Nat) (x : Option Nat) (b : Bool) : (s.driveEnq w x b).nxt = s.nxt := rfl
@[simp] theorem State.driveEnq_faultMark (s : State) (w : Nat) (x : Option Nat) (b : Bool) : (s.driveEnq w x b).faultMark = s.faultMark := rfl
@[simp] theorem State.driveEnq_refused (s : State) (w : Nat) (x : Option Nat) (b : Bool) : (s.driveEnq w x b).refused = s.refused := rfl
@[simp] theorem State.driveEnq_inp (s : State) (w : Nat) (x : Option Nat) (b : Bool) : (s.driveEnq w x b).inp = s.inp := rfl
@[simp] theorem State.driveEnq_out (s : State) (w : Nat) (x : Option Nat) (b : Bool) : (s.driveEnq w x b).out = { s.out with enq := s.out.enq.set w x, allocReject := s.out.allocReject.set w b } := rfl
@[simp] theorem State.driveEnq_wires (s : State) (w : Nat) (x : Option Nat) (b : Bool) : (s.driveEnq w x b).wires = s.wires := rfl
@[simp] theorem State.driveEnq_trace (s : State) (w : Nat) (x : Option Nat) (b : Bool) : (s.driveEnq w x b).trace = s.trace := rfl
@[simp] theorem State.driveEnq_script (s : State) (w : Nat) (x : Option Nat) (b : Bool) : (s.driveEnq w x b).script = s.script := rfl
@[simp] theorem State.driveEnq_env (s : State) (w : Nat) (x : Option Nat) (b : Bool) : (s.driveEnq w x b).env = s.env := rfl
@[simp] theorem State.driveEnq_slot (s : State) (w : Nat) (x : Option Nat) (b : Bool) (k : Nat) : (s.driveEnq w x b).slot k = s.slot k := rfl
@[simp] theorem State.driveEnq_stage (s : State) (w : Nat) (x : Option Nat) (b : Bool) (k : Nat) : (s.driveEnq w x b).stage k = s.stage k := rfl

@[simp] theorem State.driveBeReq_cfg (s : State) (m : Option BeReq) : (s.driveBeReq m).cfg = s.cfg := rfl
@[simp] theorem State.driveBeReq_t (s : State) (m : Option BeReq) : (s.driveBeReq m).t = s.t := rfl
@[simp] theorem State.driveBeReq_regs (s : State) (m : Option BeReq) : (s.driveBeReq m).regs = s.regs := rfl
@[simp] theorem State.driveBeReq_nxt (s : State) (m : Option BeReq) : (s.driveBeReq m).nxt = s.nxt := rfl
@[simp] theorem State.driveBeReq_faultMark (s : State) (m : Option BeReq) : (s.driveBeReq m).faultMark = s.faultMark := rfl
@[simp] theorem State.driveBeReq_refused (s : State) (m : Option BeReq) : (s.driveBeReq m).refused = s.refused := rfl
@[simp] theorem State.driveBeReq_inp (s : State) (m : Option BeReq) : (s.driveBeReq m).inp = s.inp := rfl
@[simp] theorem State.driveBeReq_out (s : State) (m : Option BeReq) : (s.driveBeReq m).out = { s.out with beReq := m } := rfl
@[simp] theorem State.driveBeReq_wires (s : State) (m : Option BeReq) : (s.driveBeReq m).wires = s.wires := rfl
@[simp] theorem State.driveBeReq_trace (s : State) (m : Option BeReq) : (s.driveBeReq m).trace = s.trace := rfl
@[simp] theorem State.driveBeReq_script (s : State) (m : Option BeReq) : (s.driveBeReq m).script = s.script := rfl
@[simp] theorem State.driveBeReq_env (s : State) (m : Option BeReq) : (s.driveBeReq m).env = s.env := rfl
@[simp] theorem State.driveBeReq_slot (s : State) (m : Option BeReq) (k : Nat) : (s.driveBeReq m).slot k = s.slot k := rfl
@[simp] theorem State.driveBeReq_stage (s : State) (m : Option BeReq) (k : Nat) : (s.driveBeReq m).stage k = s.stage k := rfl

@[simp] theorem State.driveWbOrd_cfg (s : State) (r : Option Result) (raw : Option RawWriteback) : (s.driveWbOrd r raw).cfg = s.cfg := rfl
@[simp] theorem State.driveWbOrd_t (s : State) (r : Option Result) (raw : Option RawWriteback) : (s.driveWbOrd r raw).t = s.t := rfl
@[simp] theorem State.driveWbOrd_regs (s : State) (r : Option Result) (raw : Option RawWriteback) : (s.driveWbOrd r raw).regs = s.regs := rfl
@[simp] theorem State.driveWbOrd_nxt (s : State) (r : Option Result) (raw : Option RawWriteback) : (s.driveWbOrd r raw).nxt = s.nxt := rfl
@[simp] theorem State.driveWbOrd_faultMark (s : State) (r : Option Result) (raw : Option RawWriteback) : (s.driveWbOrd r raw).faultMark = s.faultMark := rfl
@[simp] theorem State.driveWbOrd_refused (s : State) (r : Option Result) (raw : Option RawWriteback) : (s.driveWbOrd r raw).refused = s.refused := rfl
@[simp] theorem State.driveWbOrd_inp (s : State) (r : Option Result) (raw : Option RawWriteback) : (s.driveWbOrd r raw).inp = s.inp := rfl
@[simp] theorem State.driveWbOrd_out (s : State) (r : Option Result) (raw : Option RawWriteback) : (s.driveWbOrd r raw).out = { s.out with wbOrd := r, wbOrdRaw := raw } := rfl
@[simp] theorem State.driveWbOrd_wires (s : State) (r : Option Result) (raw : Option RawWriteback) : (s.driveWbOrd r raw).wires = s.wires := rfl
@[simp] theorem State.driveWbOrd_trace (s : State) (r : Option Result) (raw : Option RawWriteback) : (s.driveWbOrd r raw).trace = s.trace := rfl
@[simp] theorem State.driveWbOrd_script (s : State) (r : Option Result) (raw : Option RawWriteback) : (s.driveWbOrd r raw).script = s.script := rfl
@[simp] theorem State.driveWbOrd_env (s : State) (r : Option Result) (raw : Option RawWriteback) : (s.driveWbOrd r raw).env = s.env := rfl
@[simp] theorem State.driveWbOrd_slot (s : State) (r : Option Result) (raw : Option RawWriteback) (k : Nat) : (s.driveWbOrd r raw).slot k = s.slot k := rfl
@[simp] theorem State.driveWbOrd_stage (s : State) (r : Option Result) (raw : Option RawWriteback) (k : Nat) : (s.driveWbOrd r raw).stage k = s.stage k := rfl

@[simp] theorem State.driveWbUn_cfg (s : State) (j : Nat) (r : Option Result) : (s.driveWbUn j r).cfg = s.cfg := rfl
@[simp] theorem State.driveWbUn_t (s : State) (j : Nat) (r : Option Result) : (s.driveWbUn j r).t = s.t := rfl
@[simp] theorem State.driveWbUn_regs (s : State) (j : Nat) (r : Option Result) : (s.driveWbUn j r).regs = s.regs := rfl
@[simp] theorem State.driveWbUn_nxt (s : State) (j : Nat) (r : Option Result) : (s.driveWbUn j r).nxt = s.nxt := rfl
@[simp] theorem State.driveWbUn_faultMark (s : State) (j : Nat) (r : Option Result) : (s.driveWbUn j r).faultMark = s.faultMark := rfl
@[simp] theorem State.driveWbUn_refused (s : State) (j : Nat) (r : Option Result) : (s.driveWbUn j r).refused = s.refused := rfl
@[simp] theorem State.driveWbUn_inp (s : State) (j : Nat) (r : Option Result) : (s.driveWbUn j r).inp = s.inp := rfl
@[simp] theorem State.driveWbUn_out (s : State) (j : Nat) (r : Option Result) : (s.driveWbUn j r).out = { s.out with wbUn := s.out.wbUn.set j r } := rfl
@[simp] theorem State.driveWbUn_wires (s : State) (j : Nat) (r : Option Result) : (s.driveWbUn j r).wires = s.wires := rfl
@[simp] theorem State.driveWbUn_trace (s : State) (j : Nat) (r : Option Result) : (s.driveWbUn j r).trace = s.trace := rfl
@[simp] theorem State.driveWbUn_script (s : State) (j : Nat) (r : Option Result) : (s.driveWbUn j r).script = s.script := rfl
@[simp] theorem State.driveWbUn_env (s : State) (j : Nat) (r : Option Result) : (s.driveWbUn j r).env = s.env := rfl
@[simp] theorem State.driveWbUn_slot (s : State) (j : Nat) (r : Option Result) (k : Nat) : (s.driveWbUn j r).slot k = s.slot k := rfl
@[simp] theorem State.driveWbUn_stage (s : State) (j : Nat) (r : Option Result) (k : Nat) : (s.driveWbUn j r).stage k = s.stage k := rfl

@[simp] theorem State.driveFaultOut_cfg (s : State) (r : Option Request) : (s.driveFaultOut r).cfg = s.cfg := rfl
@[simp] theorem State.driveFaultOut_t (s : State) (r : Option Request) : (s.driveFaultOut r).t = s.t := rfl
@[simp] theorem State.driveFaultOut_regs (s : State) (r : Option Request) : (s.driveFaultOut r).regs = s.regs := rfl
@[simp] theorem State.driveFaultOut_nxt (s : State) (r : Option Request) : (s.driveFaultOut r).nxt = s.nxt := rfl
@[simp] theorem State.driveFaultOut_faultMark (s : State) (r : Option Request) : (s.driveFaultOut r).faultMark = s.faultMark := rfl
@[simp] theorem State.driveFaultOut_refused (s : State) (r : Option Request) : (s.driveFaultOut r).refused = s.refused := rfl
@[simp] theorem State.driveFaultOut_inp (s : State) (r : Option Request) : (s.driveFaultOut r).inp = s.inp := rfl
@[simp] theorem State.driveFaultOut_out (s : State) (r : Option Request) : (s.driveFaultOut r).out = { s.out with faultOut := r } := rfl
@[simp] theorem State.driveFaultOut_wires (s : State) (r : Option Request) : (s.driveFaultOut r).wires = s.wires := rfl
@[simp] theorem State.driveFaultOut_trace (s : State) (r : Option Request) : (s.driveFaultOut r).trace = s.trace := rfl
@[simp] theorem State.driveFaultOut_script (s : State) (r : Option Request) : (s.driveFaultOut r).script = s.script := rfl
@[simp] theorem State.driveFaultOut_env (s : State) (r : Option Request) : (s.driveFaultOut r).env = s.env := rfl
@[simp] theorem State.driveFaultOut_slot (s : State) (r : Option Request) (k : Nat) : (s.driveFaultOut r).slot k = s.slot k := rfl
@[simp] theorem State.driveFaultOut_stage (s : State) (r : Option Request) (k : Nat) : (s.driveFaultOut r).stage k = s.stage k := rfl

end Sys2Proof.Machine
end

