-- ==== Sys2Proof/Laws/Ops.lean ====
section
/-!
SUPPORT. What each shared operation can do, said once: the bounded searches of R9, the four shapes of a meaning, and what a
handoff and a drain leave alone.
-/
namespace Sys2Proof.Machine

/-! ## Bounded searches -/

theorem leastBelow_eq_some {n i : Nat} {p : Nat → Bool} :
    leastBelow n p = some i ↔ i < n ∧ p i = true ∧ ∀ j, j < i → p j = false := by
  simp only [leastBelow, List.find?_range_eq_some]
  constructor
  · rintro ⟨hp, hm, hj⟩
    exact ⟨by simpa using hm, hp, fun j h => by simpa using hj j h⟩
  · rintro ⟨hn, hp, hj⟩
    exact ⟨hp, by simpa using hn, fun j h => by simpa using hj j h⟩

theorem leastBelow_eq_none {n : Nat} {p : Nat → Bool} : leastBelow n p = none ↔ ∀ j, j < n → p j = false := by
  simp [leastBelow]

theorem anyBelow_iff {n : Nat} {p : Nat → Bool} : anyBelow n p = true ↔ ∃ j, j < n ∧ p j = true := by
  simp [anyBelow]

theorem leastBelow_isSome {n : Nat} {p : Nat → Bool} : (leastBelow n p).isSome = anyBelow n p := by
  rw [Bool.eq_iff_iff, anyBelow_iff, Option.isSome_iff_ne_none, ne_eq, leastBelow_eq_none]
  simp

theorem countBelow_zero (p : Nat → Bool) : countBelow 0 p = 0 := rfl

theorem countBelow_succ (n : Nat) (p : Nat → Bool) :
    countBelow (n + 1) p = countBelow n p + if p n then 1 else 0 := by
  simp [countBelow, List.range_succ, List.countP_append, List.countP_cons]

theorem countBelow_pos {n : Nat} {p : Nat → Bool} : 0 < countBelow n p ↔ ∃ j, j < n ∧ p j = true := by
  simp [countBelow, List.countP_pos_iff]

/-- More than one index has the property exactly when two different ones do. -/
theorem one_lt_countBelow {n : Nat} {p : Nat → Bool} :
    1 < countBelow n p ↔ ∃ i j, i < j ∧ j < n ∧ p i = true ∧ p j = true := by
  induction n with
  | zero => simp [countBelow_zero]
  | succ n ih =>
    rw [countBelow_succ]
    constructor
    · intro h
      by_cases hn : p n = true
      · rw [if_pos hn] at h
        obtain ⟨i, hi, hp⟩ := countBelow_pos.mp (by omega : 0 < countBelow n p)
        exact ⟨i, n, hi, by omega, hp, hn⟩
      · rw [if_neg hn] at h
        obtain ⟨i, j, hij, hj, h1, h2⟩ := ih.mp (by omega)
        exact ⟨i, j, hij, by omega, h1, h2⟩
    · rintro ⟨i, j, hij, hj, h1, h2⟩
      by_cases hjn : j = n
      · subst hjn
        have := countBelow_pos.mpr ⟨i, hij, h1⟩
        rw [if_pos h2]
        omega
      · have := ih.mpr ⟨i, j, hij, by omega, h1, h2⟩
        omega

/-! ## The age order (R6: a strict total order) -/

theorem older_numbers {c : Config} (h : c.ageOrder = .numbers) (a b : AgeKey) : older c a b = decide (a < b) := by
  simp [older, h]

theorem older_free {c : Config} {k : Nat} (h : c.ageOrder = .free k) (a b : AgeKey) :
    older c a b = rankOlder (Config.freeRank k) a b := by
  simp [older, h]

theorem rankOlder_iff {rank : AgeKey → Rat} {a b : AgeKey} :
    rankOlder rank a b = true ↔ rank a < rank b ∨ (rank a = rank b ∧ a < b) := by
  simp [rankOlder]

/-- What the age order can be: the numbers' or that of some ranks. -/
theorem older_cases (c : Config) :
    (∀ a b, older c a b = decide (a < b)) ∨ ∃ rank, ∀ a b, older c a b = rankOlder rank a b := by
  cases h : c.ageOrder with
  | numbers => exact .inl (older_numbers h)
  | free k => exact .inr ⟨_, older_free h⟩

theorem older_irrefl (c : Config) (a : AgeKey) : older c a a = false := by
  rcases older_cases c with h | ⟨rank, h⟩ <;> simp [h, rankOlder]

theorem older_trans {c : Config} {a b d : AgeKey} (h1 : older c a b = true) (h2 : older c b d = true) :
    older c a d = true := by
  rcases older_cases c with h | ⟨rank, h⟩
  · simp only [h, decide_eq_true_eq] at *
    exact Nat.lt_trans h1 h2
  · simp only [h, rankOlder_iff] at *
    rcases h1 with h1 | ⟨e1, l1⟩ <;> rcases h2 with h2 | ⟨e2, l2⟩
    · exact .inl (h1.trans h2)
    · exact .inl (e2 ▸ h1)
    · exact .inl (e1 ▸ h2)
    · exact .inr ⟨e1.trans e2, l1.trans l2⟩

theorem older_total {c : Config} {a b : AgeKey} (hne : a ≠ b) : older c a b = true ∨ older c b a = true := by
  rcases older_cases c with h | ⟨rank, h⟩
  · simpa only [h, decide_eq_true_eq] using Nat.lt_or_gt_of_ne hne
  · simp only [h, rankOlder_iff]
    rcases lt_trichotomy (rank a) (rank b) with hr | hr | hr
    · exact .inl (.inl hr)
    · rcases Nat.lt_or_gt_of_ne hne with hl | hl
      · exact .inl (.inr ⟨hr, hl⟩)
      · exact .inr (.inr ⟨hr.symm, hl⟩)
    · exact .inr (.inl hr)

theorem older_asymm {c : Config} {a b : AgeKey} (h : older c a b = true) : older c b a = false := by
  by_contra hn
  have := older_trans h (by simpa using hn)
  simp [older_irrefl] at this

/-- A strict total order on a countable type is an order of rationals. -/
theorem exists_ratOrder {α : Type} [Countable α] (r : α → α → Prop) [IsStrictTotalOrder α r] :
    ∃ e : α → Rat, ∀ a b, e a < e b ↔ r a b := by
  classical
  let _ : LinearOrder α := linearOrderOfSTO r
  obtain ⟨e⟩ := Order.embedding_from_countable_to_dense α Rat
  exact ⟨e, fun a b => e.lt_iff_lt⟩

/-- Every strict total order on tokens is the order of some ranks, so the free order of a configuration leaves none out
(R6; log 2). -/
theorem exists_rank (r : AgeKey → AgeKey → Prop) [IsStrictTotalOrder AgeKey r] :
    ∃ rank : AgeKey → Rat, ∀ a b, rankOlder rank a b = true ↔ r a b := by
  obtain ⟨e, he⟩ := exists_ratOrder r
  refine ⟨e, fun a b => ?_⟩
  rw [rankOlder_iff, he]
  constructor
  · rintro (h | ⟨hab, hlt⟩)
    · exact h
    · rcases trichotomous_of r a b with h | rfl | h
      · exact h
      · exact absurd hlt (Nat.lt_irrefl a)
      · exact absurd ((he b a).mpr h) (by simp [hab])
  · exact .inl

/-! ## The four shapes of a meaning -/

theorem onSlot_eq_next {s t t' : State} {i : Nat} : onSlot s i t = .next t' ↔ i < s.cfg.n ∧ t' = t := by
  unfold onSlot
  split <;> simp_all [eq_comm]

theorem onLane_eq_next {s t t' : State} {w : Nat} : onLane s w t = .next t' ↔ w < s.cfg.w ∧ t' = t := by
  unfold onLane
  split <;> simp_all [eq_comm]

theorem onPort_eq_next {s t t' : State} {j : Nat} : onPort s j t = .next t' ↔ j < s.cfg.p ∧ t' = t := by
  unfold onPort
  split <;> simp_all [eq_comm]

theorem onChoice_eq_next {g : Option Nat} {t : Nat → State} {t' : State} :
    onChoice g t = .next t' ↔ ∃ i, g = some i ∧ t' = t i := by
  cases g <;> simp [onChoice, eq_comm]

/-! ## What the shared operations leave alone -/

/-- The start-of-cycle view: what every operation of a cycle reads and none writes (R130). -/
abbrev SameSnapshot (s s' : State) : Prop :=
  s'.cfg = s.cfg ∧ s'.t = s.t ∧ s'.regs = s.regs ∧ s'.inp = s.inp ∧ s'.script = s.script ∧ s'.env = s.env ∧ s'.trace = s.trace

theorem sameSnapshot_slot {s s' : State} (h : SameSnapshot s s') (i : Nat) : s'.slot i = s.slot i := by
  simp [State.slot, h.2.2.1]

theorem sameSnapshot_stage {s s' : State} (h : SameSnapshot s s') (w : Nat) : s'.stage w = s.stage w := by
  simp [State.stage, h.2.2.1]

theorem handoff_snapshot (s : State) (g : Nat) (r : Bool) : SameSnapshot s (s.handoff g r) := by
  cases r <;> simp [SameSnapshot, State.handoff]

theorem drainOrd_snapshot (s : State) (o : Nat) (r : Bool) : SameSnapshot s (s.drainOrd o r) := by
  cases r <;> simp [SameSnapshot, State.drainOrd]

theorem drainUn_snapshot (s : State) (j u : Nat) (r : Bool) : SameSnapshot s (s.drainUn j u r) := by
  cases r <;> simp [SameSnapshot, State.drainUn]

theorem handoff_nxt (s : State) (g : Nat) (r : Bool) : (s.handoff g r).nxt = s.nxt := by
  cases r <;> simp [State.handoff]

theorem drainOrd_nxt (s : State) (o : Nat) (r : Bool) : (s.drainOrd o r).nxt = s.nxt := by
  cases r <;> simp [State.drainOrd]

theorem drainUn_nxt (s : State) (j u : Nat) (r : Bool) : (s.drainUn j u r).nxt = s.nxt := by
  cases r <;> simp [State.drainUn]

end Sys2Proof.Machine
end

