-- ==== Sys2Proof/Laws/Exec.lean ====
section
/-!
SUPPORT. What an operation can do, said once for all operations: it leaves the start-of-cycle view alone (R130), and it
stops only with the reasons `Fault` gives.
-/
namespace Sys2Proof.Machine

/-- Every operation leaves the parameters, the registers, the inputs, the script, the environment and the trace alone (R130). -/
theorem exec_snapshot {i : Instr} {s s' : State} (h : exec i s = .next s') : SameSnapshot s s' := by
  cases i with
  | slotEnqWrite k _ =>
    simp only [exec, execSlotEnqWrite] at h
    split at h
    · obtain ⟨w, -, rfl⟩ := onChoice_eq_next.mp h
      simp [SameSnapshot]
    · cases h
  | allocGrant w =>
    simp only [exec, execAllocGrant] at h
    split at h
    · obtain ⟨x, -, rfl⟩ := onChoice_eq_next.mp h
      simp [SameSnapshot]
    · cases h
  | wbUnFire j =>
    simp only [exec, execWbUnFire] at h
    split at h
    · obtain ⟨u, -, rfl⟩ := onChoice_eq_next.mp h
      exact drainUn_snapshot s j u true
    · cases h
  | wbUnHold j =>
    simp only [exec, execWbUnHold] at h
    split at h
    · obtain ⟨u, -, rfl⟩ := onChoice_eq_next.mp h
      exact drainUn_snapshot s j u false
    · cases h
  | arbOrdMultiFault _ r =>
    obtain ⟨g, -, rfl⟩ := onChoice_eq_next.mp h
    simpa [SameSnapshot] using handoff_snapshot (s.raise .ordMulti) g r
  | arbOrdFire _ =>
    obtain ⟨g, -, rfl⟩ := onChoice_eq_next.mp h
    exact handoff_snapshot s g true
  | arbOrdStall _ =>
    obtain ⟨g, -, rfl⟩ := onChoice_eq_next.mp h
    exact handoff_snapshot s g false
  | arbUnordFire _ =>
    obtain ⟨g, -, rfl⟩ := onChoice_eq_next.mp h
    simpa [SameSnapshot] using handoff_snapshot s g true
  | arbUnordStall _ =>
    obtain ⟨g, -, rfl⟩ := onChoice_eq_next.mp h
    exact handoff_snapshot s g false
  | wbOrdMultiFault _ r =>
    obtain ⟨o, -, rfl⟩ := onChoice_eq_next.mp h
    simpa [SameSnapshot] using drainOrd_snapshot (s.raise .wbOrdMulti) o r
  | wbOrdFire =>
    obtain ⟨o, -, rfl⟩ := onChoice_eq_next.mp h
    exact drainOrd_snapshot s o true
  | wbOrdHold =>
    obtain ⟨o, -, rfl⟩ := onChoice_eq_next.mp h
    exact drainOrd_snapshot s o false
  | faultReport =>
    obtain ⟨f, -, rfl⟩ := onChoice_eq_next.mp h
    simp [SameSnapshot]
  | rbArm =>
    obtain ⟨e, -, rfl⟩ := onChoice_eq_next.mp h
    simp [SameSnapshot, State.armRb]
  | rbTieFault a b c =>
    obtain ⟨e, -, rfl⟩ := onChoice_eq_next.mp h
    dsimp only
    split <;> simp [SameSnapshot, State.armRb, State.disarmRb]
  | _ =>
    first
    | (obtain ⟨-, rfl⟩ := onSlot_eq_next.mp h
       simp [SameSnapshot, State.freeSlot])
    | (obtain ⟨-, rfl⟩ := onLane_eq_next.mp h
       simp [SameSnapshot])
    | (obtain ⟨-, rfl⟩ := onPort_eq_next.mp h
       simp [SameSnapshot])
    | (cases h
       simp [SameSnapshot, State.disarmRb])

/-- No operation answers a refusal. -/
theorem exec_not_refused (i : Instr) (s : State) (r : Refusal) : exec i s ≠ .refused r := by
  intro h
  cases i <;>
    simp only [exec, execSlotResubmitFault, execSlotEmpty, execSlotEnqWrite, execIdleCancel, execIdleIssue, execIdleWait,
      execReqCancel, execReqFire, execReqStall, execRespDiscardNow, execRespDiscardPending, execRespCapture,
      execRespMarkCancel, execRespWait, execWbCancel, execWbFire, execWbHold, execSlotInvariantFault, execSubBad,
      execSubCapture, execSubNone, execAdmNone, execAdmBadClass, execAdmFlushed, execAdmExc, execAdmReplay, execAdmUntracked,
      execAdmEnqOrd, execAdmEnqUnord, execAllocGrant, execAllocReject, execAllocNone, execArbOrdMultiFault, execArbOrdFire,
      execArbOrdStall, execArbUnordFire, execArbUnordStall, execArbIdle, execBeRead, execRespDeliver, execRespStale,
      execRespNone, execSzLb, execSzLh, execSzLw, execSzLd, execSzLbu, execSzLhu, execSzLwu, execSzRsv, execWbOrdMultiFault,
      execWbOrdFire, execWbOrdHold, execWbOrdNone, execWbUnFire, execWbUnHold, execWbUnNone, execFaultReport, execFaultNone,
      execRbNone, execRbTieFault, execRbArm, execRbSuppress, onSlot, onLane, onPort, onChoice] at h <;>
    repeat' (first | (split at h) | (cases h))

end Sys2Proof.Machine
end

