-- ==== Sys2Proof/Laws/Cycle.lean ====
section
/-!
SUPPORT. What a cycle can do, said once: how the components' operations are put one after another, what each leaves alone,
and how to carry a property through a cycle.
-/
namespace Sys2Proof.Machine

/-- What one component can do: nothing, if it performs no operation, else the operation its selector decodes to. -/
theorem runSite_eq_next {x : Site} {s s' : State} :
    runSite x s = .next s' ↔
      (active s x = false ∧ s' = s) ∨
        (active s x = true ∧ ∃ i, decode s.cfg x (selector s x) = .ok i ∧
          exec i { s with trace := s.trace ++ [(x, selector s x)] } = .next s') := by
  unfold runSite
  by_cases ha : active s x = true
  · rw [if_pos ha]
    cases hd : decode s.cfg x (selector s x) with
    | ok i => simp [ha]
    | error e => simp [ha]
  · rw [if_neg ha]
    simp [Bool.not_eq_true] at ha
    simp [ha, eq_comm]

theorem runSites_cons_eq_next {x : Site} {xs : List Site} {s s' : State} :
    runSites (x :: xs) s = .next s' ↔ ∃ m, runSite x s = .next m ∧ runSites xs m = .next s' := by
  simp only [runSites]
  cases runSite x s <;> simp

theorem runSites_append_eq_next {xs ys : List Site} {s s' : State} :
    runSites (xs ++ ys) s = .next s' ↔ ∃ m, runSites xs s = .next m ∧ runSites ys m = .next s' := by
  induction xs generalizing s with
  | nil => simp [runSites]
  | cons x xs ih =>
    simp only [List.cons_append, runSites_cons_eq_next, ih]
    constructor
    · rintro ⟨m, h1, m', h2, h3⟩
      exact ⟨m', ⟨m, h1, h2⟩, h3⟩
    · rintro ⟨m', ⟨m, h1, h2⟩, h3⟩
      exact ⟨m, h1, m', h2, h3⟩

/-- A property that every component's operation keeps holds after all of them. -/
theorem runSites_keeps {P : State → Prop} {xs : List Site}
    (hstep : ∀ x, x ∈ xs → ∀ s s', P s → runSite x s = .next s' → P s')
    {s s' : State} (hp : P s) (h : runSites xs s = .next s') : P s' := by
  induction xs generalizing s with
  | nil => cases h; exact hp
  | cons x xs ih =>
    obtain ⟨m, h1, h2⟩ := runSites_cons_eq_next.mp h
    exact ih (fun y hy => hstep y (List.mem_cons_of_mem x hy)) (hstep x List.mem_cons_self s m hp h1) h2

/-- The part of the start-of-cycle view that no component changes (R130); the trace grows. -/
abbrev SameView (s s' : State) : Prop :=
  s'.cfg = s.cfg ∧ s'.t = s.t ∧ s'.regs = s.regs ∧ s'.inp = s.inp ∧ s'.script = s.script ∧ s'.env = s.env

theorem runSite_view {x : Site} {s s' : State} (h : runSite x s = .next s') : SameView s s' := by
  rcases runSite_eq_next.mp h with ⟨-, rfl⟩ | ⟨-, i, -, he⟩
  · simp [SameView]
  · obtain ⟨h1, h2, h3, h4, h5, h6, -⟩ := exec_snapshot he
    exact ⟨h1, h2, h3, h4, h5, h6⟩

theorem runSites_view {xs : List Site} {s s' : State} (h : runSites xs s = .next s') : SameView s s' := by
  refine runSites_keeps (P := SameView s) (fun x _ m m' hm hr => ?_) (by simp [SameView]) h
  obtain ⟨h1, h2, h3, h4, h5, h6⟩ := hm
  obtain ⟨g1, g2, g3, g4, g5, g6⟩ := runSite_view hr
  exact ⟨g1.trans h1, g2.trans h2, g3.trans h3, g4.trans h4, g5.trans h5, g6.trans h6⟩

/-- What a step can do: the components run from the sampled state, then the boundary. -/
theorem step_eq_next {s t : State} :
    step s = .next t ↔ ∃ m, runSites (schedule s.cfg) (sample s) = .next m ∧ t = commit m := by
  unfold step cycle
  cases runSites (schedule s.cfg) (sample s) <;> simp [eq_comm]

@[simp] theorem sample_cfg (s : State) : (sample s).cfg = s.cfg := rfl
@[simp] theorem sample_t (s : State) : (sample s).t = s.t := rfl
@[simp] theorem sample_regs (s : State) : (sample s).regs = s.regs := rfl
@[simp] theorem sample_nxt (s : State) : (sample s).nxt = s.regs := rfl
@[simp] theorem sample_faultMark (s : State) : (sample s).faultMark = s.faultMark := rfl
@[simp] theorem sample_refused (s : State) : (sample s).refused = s.refused := rfl
@[simp] theorem sample_inp (s : State) : (sample s).inp = nextInput s := rfl
@[simp] theorem sample_out (s : State) : (sample s).out = outputBase s := rfl
@[simp] theorem sample_wires (s : State) : (sample s).wires = Wires.idle s.cfg := rfl
@[simp] theorem sample_trace (s : State) : (sample s).trace = [] := rfl
@[simp] theorem sample_script (s : State) : (sample s).script = s.script.tail := rfl
@[simp] theorem sample_env (s : State) : (sample s).env = s.env := rfl
@[simp] theorem sample_slot (s : State) (i : Nat) : (sample s).slot i = s.slot i := rfl
@[simp] theorem sample_stage (s : State) (w : Nat) : (sample s).stage w = s.stage w := rfl

@[simp] theorem commit_cfg (s : State) : (commit s).cfg = s.cfg := rfl
@[simp] theorem commit_t (s : State) : (commit s).t = s.t + 1 := rfl
@[simp] theorem commit_regs (s : State) : (commit s).regs = boundary s := rfl
@[simp] theorem commit_nxt (s : State) : (commit s).nxt = boundary s := rfl
@[simp] theorem commit_faultMark (s : State) : (commit s).faultMark = s.faultMark := rfl
@[simp] theorem commit_refused (s : State) : (commit s).refused = s.refused := rfl
@[simp] theorem commit_inp (s : State) : (commit s).inp = s.inp := rfl
@[simp] theorem commit_out (s : State) : (commit s).out = s.out := rfl
@[simp] theorem commit_wires (s : State) : (commit s).wires = s.wires := rfl
@[simp] theorem commit_trace (s : State) : (commit s).trace = s.trace := rfl
@[simp] theorem commit_script (s : State) : (commit s).script = s.script := rfl
@[simp] theorem commit_env (s : State) : (commit s).env = s.env := rfl

end Sys2Proof.Machine
end

