-- ==== Sys2Proof/Laws/PerInstr.lean ====
section
/-!
SUPPORT. The family RowMatch, one lemma per operation: the selector that the encoder writes for a well-formed operation
selects the row of the table that the operation stands for, and no earlier one (R98).
-/
namespace Sys2Proof.Laws

/-- The selector of a well-formed operation matches the operation's row first. -/
def RowMatch.Statement (i : Instr) : Prop :=
  ∀ c : Config, c.ok = true → WellFormed c i = true → rowOf c (encode c i).1.table (encode c i).2 = rowIndex i

theorem RowMatch.slotResubmitFault (i : Nat) (st : SlotState) (cancel : Bool) (cpend : Bool) (ev : Bool) : RowMatch.Statement (.slotResubmitFault i st cancel cpend ev) := by
  intro c _ _
  show rowOf _ .ss (ssWord st true cancel cpend ev true) = 0
  cases st <;> cases cancel <;> cases cpend <;> cases ev <;> rfl

theorem RowMatch.slotEmpty (i : Nat) (ev : Bool) : RowMatch.Statement (.slotEmpty i ev) := by
  intro c _ _
  show rowOf _ .ss (ssWord .idle false false false ev false) = 1
  cases ev <;> rfl

theorem RowMatch.slotEnqWrite (i : Nat) (ev : Bool) : RowMatch.Statement (.slotEnqWrite i ev) := by
  intro c _ _
  show rowOf _ .ss (ssWord .idle false false false ev true) = 2
  cases ev <;> rfl

theorem RowMatch.idleCancel (i : Nat) (ev : Bool) : RowMatch.Statement (.idleCancel i ev) := by
  intro c _ _
  show rowOf _ .ss (ssWord .idle true true false ev false) = 3
  cases ev <;> rfl

theorem RowMatch.idleIssue (i : Nat) : RowMatch.Statement (.idleIssue i) := by
  intro c _ _
  show rowOf _ .ss (ssWord .idle true false false true false) = 4
  rfl

theorem RowMatch.idleWait (i : Nat) : RowMatch.Statement (.idleWait i) := by
  intro c _ _
  show rowOf _ .ss (ssWord .idle true false false false false) = 5
  rfl

theorem RowMatch.reqCancel (i : Nat) (ev : Bool) : RowMatch.Statement (.reqCancel i ev) := by
  intro c _ _
  show rowOf _ .ss (ssWord .req true true false ev false) = 6
  cases ev <;> rfl

theorem RowMatch.reqFire (i : Nat) : RowMatch.Statement (.reqFire i) := by
  intro c _ _
  show rowOf _ .ss (ssWord .req true false false true false) = 7
  rfl

theorem RowMatch.reqStall (i : Nat) : RowMatch.Statement (.reqStall i) := by
  intro c _ _
  show rowOf _ .ss (ssWord .req true false false false false) = 8
  rfl

theorem RowMatch.respDiscardNow (i : Nat) (cpend : Bool) : RowMatch.Statement (.respDiscardNow i cpend) := by
  intro c _ _
  show rowOf _ .ss (ssWord .resp true true cpend true false) = 9
  cases cpend <;> rfl

theorem RowMatch.respDiscardPending (i : Nat) : RowMatch.Statement (.respDiscardPending i) := by
  intro c _ _
  show rowOf _ .ss (ssWord .resp true false true true false) = 10
  rfl

theorem RowMatch.respCapture (i : Nat) : RowMatch.Statement (.respCapture i) := by
  intro c _ _
  show rowOf _ .ss (ssWord .resp true false false true false) = 11
  rfl

theorem RowMatch.respMarkCancel (i : Nat) (cpend : Bool) : RowMatch.Statement (.respMarkCancel i cpend) := by
  intro c _ _
  show rowOf _ .ss (ssWord .resp true true cpend false false) = 12
  cases cpend <;> rfl

theorem RowMatch.respWait (i : Nat) (cpend : Bool) : RowMatch.Statement (.respWait i cpend) := by
  intro c _ _
  show rowOf _ .ss (ssWord .resp true false cpend false false) = 13
  cases cpend <;> rfl

theorem RowMatch.wbCancel (i : Nat) (ev : Bool) : RowMatch.Statement (.wbCancel i ev) := by
  intro c _ _
  show rowOf _ .ss (ssWord .wb true true false ev false) = 14
  cases ev <;> rfl

theorem RowMatch.wbFire (i : Nat) : RowMatch.Statement (.wbFire i) := by
  intro c _ _
  show rowOf _ .ss (ssWord .wb true false false true false) = 15
  rfl

theorem RowMatch.wbHold (i : Nat) : RowMatch.Statement (.wbHold i) := by
  intro c _ _
  show rowOf _ .ss (ssWord .wb true false false false false) = 16
  rfl

theorem RowMatch.slotInvariantFault (i : Nat) (ss : BitVec 7) : RowMatch.Statement (.slotInvariantFault i ss) := by
  intro c _ h
  simp only [WellFormed, Bool.and_eq_true, decide_eq_true_eq] at h
  exact h.2

theorem RowMatch.subBad (w : Nat) : RowMatch.Statement (.subBad w) := by
  intro c _ _
  show rowOf _ .sub (subWord true .rsvd) = 0
  rfl

theorem RowMatch.subCapture (w : Nat) (cls : Cls) : RowMatch.Statement (.subCapture w cls) := by
  intro c _ h
  show rowOf _ .sub (subWord true cls) = 1
  cases cls <;> first | rfl | simp [WellFormed, Cls.legal] at h

theorem RowMatch.subNone (w : Nat) (cls : Cls) : RowMatch.Statement (.subNone w cls) := by
  intro c _ _
  show rowOf _ .sub (subWord false cls) = 2
  cases cls <;> rfl

theorem RowMatch.admNone (w : Nat) (fh : Bool) (exc : Bool) (replay : Bool) (cls : Cls) : RowMatch.Statement (.admNone w fh exc replay cls) := by
  intro c _ _
  show rowOf _ .adm (admWord false fh exc replay cls) = 0
  cases fh <;> cases exc <;> cases replay <;> cases cls <;> rfl

theorem RowMatch.admBadClass (w : Nat) (fh : Bool) (exc : Bool) (replay : Bool) : RowMatch.Statement (.admBadClass w fh exc replay) := by
  intro c _ _
  show rowOf _ .adm (admWord true fh exc replay .rsvd) = 1
  cases fh <;> cases exc <;> cases replay <;> rfl

theorem RowMatch.admFlushed (w : Nat) (exc : Bool) (replay : Bool) (cls : Cls) : RowMatch.Statement (.admFlushed w exc replay cls) := by
  intro c _ h
  show rowOf _ .adm (admWord true true exc replay cls) = 2
  cases exc <;> cases replay <;> cases cls <;> first | rfl | simp [WellFormed, Cls.legal] at h

theorem RowMatch.admExc (w : Nat) (replay : Bool) (cls : Cls) : RowMatch.Statement (.admExc w replay cls) := by
  intro c _ h
  show rowOf _ .adm (admWord true false true replay cls) = 3
  cases replay <;> cases cls <;> first | rfl | simp [WellFormed, Cls.legal] at h

theorem RowMatch.admReplay (w : Nat) (cls : Cls) : RowMatch.Statement (.admReplay w cls) := by
  intro c _ h
  show rowOf _ .adm (admWord true false false true cls) = 4
  cases cls <;> first | rfl | simp [WellFormed, Cls.legal] at h

theorem RowMatch.admUntracked (w : Nat) : RowMatch.Statement (.admUntracked w) := by
  intro c _ _
  show rowOf _ .adm (admWord true false false false .none) = 5
  rfl

theorem RowMatch.admEnqOrd (w : Nat) : RowMatch.Statement (.admEnqOrd w) := by
  intro c _ _
  show rowOf _ .adm (admWord true false false false .ord) = 6
  rfl

theorem RowMatch.admEnqUnord (w : Nat) : RowMatch.Statement (.admEnqUnord w) := by
  intro c _ _
  show rowOf _ .adm (admWord true false false false .unord) = 7
  rfl

theorem RowMatch.allocGrant (w : Nat) : RowMatch.Statement (.allocGrant w) := by
  intro c _ _
  show rowOf _ .al (alWord true true) = 0
  rfl

theorem RowMatch.allocReject (w : Nat) : RowMatch.Statement (.allocReject w) := by
  intro c _ _
  show rowOf _ .al (alWord true false) = 1
  rfl

theorem RowMatch.allocNone (w : Nat) (can : Bool) : RowMatch.Statement (.allocNone w can) := by
  intro c _ _
  show rowOf _ .al (alWord false can) = 2
  cases can <;> rfl

theorem RowMatch.arbOrdMultiFault (anyUn : Bool) (ready : Bool) : RowMatch.Statement (.arbOrdMultiFault anyUn ready) := by
  intro c _ _
  show rowOf _ .ar (arWord true anyUn ready true) = 0
  cases anyUn <;> cases ready <;> rfl

theorem RowMatch.arbOrdFire (anyUn : Bool) : RowMatch.Statement (.arbOrdFire anyUn) := by
  intro c _ _
  show rowOf _ .ar (arWord true anyUn true false) = 1
  cases anyUn <;> rfl

theorem RowMatch.arbOrdStall (anyUn : Bool) : RowMatch.Statement (.arbOrdStall anyUn) := by
  intro c _ _
  show rowOf _ .ar (arWord true anyUn false false) = 2
  cases anyUn <;> rfl

theorem RowMatch.arbUnordFire (ordMulti : Bool) : RowMatch.Statement (.arbUnordFire ordMulti) := by
  intro c _ _
  show rowOf _ .ar (arWord false true true ordMulti) = 3
  cases ordMulti <;> rfl

theorem RowMatch.arbUnordStall (ordMulti : Bool) : RowMatch.Statement (.arbUnordStall ordMulti) := by
  intro c _ _
  show rowOf _ .ar (arWord false true false ordMulti) = 4
  cases ordMulti <;> rfl

theorem RowMatch.arbIdle (ready : Bool) (ordMulti : Bool) : RowMatch.Statement (.arbIdle ready ordMulti) := by
  intro c _ _
  show rowOf _ .ar (arWord false false ready ordMulti) = 5
  cases ready <;> cases ordMulti <;> rfl

theorem RowMatch.respDeliver : RowMatch.Statement (.respDeliver) := by
  intro c _ _
  show rowOf _ .rs (rsWord true true) = 0
  rfl

theorem RowMatch.respStale : RowMatch.Statement (.respStale) := by
  intro c _ _
  show rowOf _ .rs (rsWord true false) = 1
  rfl

theorem RowMatch.respNone (awaiting : Bool) : RowMatch.Statement (.respNone awaiting) := by
  intro c _ _
  show rowOf _ .rs (rsWord false awaiting) = 2
  cases awaiting <;> rfl

theorem RowMatch.wbOrdMultiFault (any : Bool) (ready : Bool) : RowMatch.Statement (.wbOrdMultiFault any ready) := by
  intro c _ _
  show rowOf _ .wo (woWord true any ready) = 0
  cases any <;> cases ready <;> rfl

theorem RowMatch.wbOrdFire : RowMatch.Statement (.wbOrdFire) := by
  intro c _ _
  show rowOf _ .wo (woWord false true true) = 1
  rfl

theorem RowMatch.wbOrdHold : RowMatch.Statement (.wbOrdHold) := by
  intro c _ _
  show rowOf _ .wo (woWord false true false) = 2
  rfl

theorem RowMatch.wbOrdNone (ready : Bool) : RowMatch.Statement (.wbOrdNone ready) := by
  intro c _ _
  show rowOf _ .wo (woWord false false ready) = 3
  cases ready <;> rfl

theorem RowMatch.wbUnFire (j : Nat) : RowMatch.Statement (.wbUnFire j) := by
  intro c _ _
  show rowOf _ .wu (wuWord true true) = 0
  rfl

theorem RowMatch.wbUnHold (j : Nat) : RowMatch.Statement (.wbUnHold j) := by
  intro c _ _
  show rowOf _ .wu (wuWord true false) = 1
  rfl

theorem RowMatch.wbUnNone (j : Nat) (ready : Bool) : RowMatch.Statement (.wbUnNone j ready) := by
  intro c _ _
  show rowOf _ .wu (wuWord false ready) = 2
  cases ready <;> rfl

theorem RowMatch.szLb (i : Nat) : RowMatch.Statement (.szLb i) := by
  intro c _ _
  show rowOf _ .sz (0) = 0
  rfl

theorem RowMatch.szLh (i : Nat) : RowMatch.Statement (.szLh i) := by
  intro c _ _
  show rowOf _ .sz (1) = 1
  rfl

theorem RowMatch.szLw (i : Nat) : RowMatch.Statement (.szLw i) := by
  intro c _ _
  show rowOf _ .sz (2) = 2
  rfl

theorem RowMatch.szLd (i : Nat) : RowMatch.Statement (.szLd i) := by
  intro c _ _
  show rowOf _ .sz (3) = 3
  rfl

theorem RowMatch.szLbu (i : Nat) : RowMatch.Statement (.szLbu i) := by
  intro c _ _
  show rowOf _ .sz (4) = 4
  rfl

theorem RowMatch.szLhu (i : Nat) : RowMatch.Statement (.szLhu i) := by
  intro c _ _
  show rowOf _ .sz (5) = 5
  rfl

theorem RowMatch.szLwu (i : Nat) : RowMatch.Statement (.szLwu i) := by
  intro c _ _
  show rowOf _ .sz (6) = 6
  rfl

theorem RowMatch.szRsv (i : Nat) : RowMatch.Statement (.szRsv i) := by
  intro c _ _
  show rowOf _ .sz (7) = 7
  rfl

theorem RowMatch.faultReport : RowMatch.Statement (.faultReport) := by
  intro c _ _
  show rowOf _ .fo (1) = 0
  rfl

theorem RowMatch.faultNone : RowMatch.Statement (.faultNone) := by
  intro c _ _
  show rowOf _ .fo (0) = 1
  rfl

theorem RowMatch.rbNone (tie : Bool) (now : Bool) (d1 : Bool) (d2 : Bool) : RowMatch.Statement (.rbNone tie now d1 d2) := by
  intro c _ _
  show rowOf _ .rb (rbWord false tie now d1 d2) = 0
  cases tie <;> cases now <;> cases d1 <;> cases d2 <;> rfl

theorem RowMatch.rbTieFault (now : Bool) (d1 : Bool) (d2 : Bool) : RowMatch.Statement (.rbTieFault now d1 d2) := by
  intro c _ _
  show rowOf _ .rb (rbWord true true now d1 d2) = 1
  cases now <;> cases d1 <;> cases d2 <;> rfl

theorem RowMatch.rbArm : RowMatch.Statement (.rbArm) := by
  intro c _ _
  show rowOf _ .rb (rbWord true false false false false) = 2
  rfl

theorem RowMatch.rbSuppress (now : Bool) (d1 : Bool) (d2 : Bool) : RowMatch.Statement (.rbSuppress now d1 d2) := by
  intro c _ h
  show rowOf _ .rb (rbWord true false now d1 d2) = 3
  cases now <;> cases d1 <;> cases d2 <;> first | rfl | simp [WellFormed] at h

theorem RowMatch.beRead (g : Nat) : RowMatch.Statement (.beRead g) := by
  intro c h _
  have hc : c.cmdRead < 2 ^ c.cmdW := by
    simp only [Config.ok, Bool.and_eq_true, decide_eq_true_eq] at h
    exact h.2
  simp [rowOf, tableRows, encode, rowIndex, List.findIdx_cons, Nat.and_two_pow_sub_one_eq_mod, Nat.mod_eq_of_lt hc]

end Sys2Proof.Laws
end

