-- ==== Sys2Proof/Machine/Stimulus.lean ====
section
/-!
DEFINITION. The stimulus notation of R112, as terms rather than text, and the input vectors it stands for (R113).
-/
namespace Sys2Proof.Machine

/-- One event of a stimulus line (R112). -/
inductive Event where
  | sub (w : Nat) (cand : Candidate)
  | flush (age : AgeKey)
  | tok (age : AgeKey)
  | tokNone
  | beBusy
  | resp (tag : Nat) (data : Beat) (err : Bool)
  | wbOrdStall
  | wbUnStall (j : Nat)
deriving DecidableEq, Repr

/-- A line: the events of one cycle (R112). -/
structure Line where
  cycle  : Nat
  events : List Event
deriving DecidableEq, Repr

/-- The candidate of a `SUB` event with the flags, `ident` and `restart` at their defaults (R112). DESIGN CHOICE (log 20): the
token `_` is 0, and so are `fault` and the metadata, which the notation cannot write and to which R112 gives no default. -/
def Event.candidate (addr : Addr) (mask : Mask16) (age : AgeKey) (cls : Cls) (size : SizeCode) : Candidate :=
  { addr := addr, mask := mask, age := age, ident := 0, cls := cls, atomic := false, size := size, fault := false,
    restart := 0, metaInfo := 0, hasExc := false, needReplay := false }

/-- What one event does to the inputs of its cycle (R112). DESIGN CHOICE: the age of the token after `TOK none` is 0 (log 21),
and a lane or port that the block does not have is left out (log 22). -/
def Event.apply (x : Input) : Event → Input
  | .sub w cand => { x with prod := x.prod.set w { valid := true, cand := cand } }
  | .flush age => { x with flush := { valid := true, age := age } }
  | .tok age => { x with tok := { valid := true, age := age } }
  | .tokNone => { x with tok := AgeSignal.reset }
  | .beBusy => { x with beReqReady := false }
  | .resp tag data err => { x with resp := { valid := true, tag := tag, data := data, err := err } }
  | .wbOrdStall => { x with wbOrdReady := false }
  | .wbUnStall j => { x with wbUnReady := x.wbUnReady.set j false }

/-- The inputs of a cycle before its events: every default, and the token as it was ("`TOK` is sticky", R112). What R112 leaves
open in a default is the model's choice (log 21). -/
def Input.defaults (c : Config) (tok : AgeSignal) : Input :=
  { Input.idle with tok := tok, prod := List.replicate c.w Submission.idle, wbUnReady := List.replicate c.p true }

/-- The inputs of cycle `t` of a stimulus (R112, R113): the events of the lines that name it, over the defaults. DESIGN CHOICE
(log 22): R112 does not say what two events on one input of a cycle mean (two `SUB` of one lane, two `FLUSH`, two `RESP`),
nor what two lines of one cycle mean. All of them are taken in the order in which they are written, and the last wins. -/
def stimulusInput (c : Config) (lines : List Line) (t : Nat) (tok : AgeSignal) : Input :=
  ((lines.filter fun l => l.cycle == t).flatMap Line.events).foldl Event.apply (Input.defaults c tok)

/-- The input vectors of `k` cycles of a stimulus from cycle `t` on, under the reference draw (R112, R113, R195). -/
def stimulusInputs (c : Config) (lines : List Line) : Nat → Nat → AgeSignal → List Input
  | 0, _, _ => []
  | k + 1, t, tok =>
    let x := stimulusInput c lines t tok
    x :: stimulusInputs c lines k (t + 1) x.tok

end Sys2Proof.Machine
end

