-- ==== Sys2Proof/Tests/Slice0.lean ====
section
/-!
SUPPORT. Tests: ill-formed terms that WellFormed refuses, a word written out bit by bit for every operation, and the vectors
of spec/95_test_vectors.md, each one step or one operation. Every expected value is from that file or from the rule named.
-/
namespace Sys2Proof.Tests
open Sys2Proof.Machine

/- The tests are elaborated one after another: side by side, the threads of the kernel evaluations take too much memory. -/
set_option Elab.async false

/-! ## WellFormed refuses (R98, R100, R101, R6) -/

theorem test_wf_refuses_slot_out_of_range : WellFormed Config.reference (.idleWait 4) = false := by decide
theorem test_wf_refuses_lane_out_of_range : WellFormed Config.reference (.subBad 3) = false := by decide
theorem test_wf_refuses_port_out_of_range : WellFormed Config.reference (.wbUnFire 2) = false := by decide
theorem test_wf_refuses_reserved_class : WellFormed Config.reference (.subCapture 0 .rsvd) = false := by decide
theorem test_wf_refuses_reserved_class_flushed : WellFormed Config.reference (.admFlushed 0 false false .rsvd) = false := by decide
theorem test_wf_refuses_normal_selector_as_invariant_fault :
    WellFormed Config.reference (.slotInvariantFault 0 0x10) = false := by decide
theorem test_wf_refuses_suppress_without_hit : WellFormed Config.reference (.rbSuppress false false false) = false := by decide
theorem test_wf_accepts : WellFormed Config.reference (.slotInvariantFault 3 0x20) = true := by decide

/-! ## One word for every operation, written out from 30_encoding.md R99 to R109 -/

/-- `SS = st[6:5] occ[4] cancel_now[3] cpend[2] ev[1] en[0]` (R99; vectors SS-1 to SS-23). -/
theorem test_decode_slot :
    decode Config.reference ⟨.ss, 0⟩ 0b0110001 = .ok (.slotResubmitFault 0 .req false false false)
    ∧ decode Config.reference ⟨.ss, 1⟩ 0b0000000 = .ok (.slotEmpty 1 false)
    ∧ decode Config.reference ⟨.ss, 2⟩ 0b0000001 = .ok (.slotEnqWrite 2 false)
    ∧ decode Config.reference ⟨.ss, 3⟩ 0b0011010 = .ok (.idleCancel 3 true)
    ∧ decode Config.reference ⟨.ss, 0⟩ 0b0010010 = .ok (.idleIssue 0)
    ∧ decode Config.reference ⟨.ss, 0⟩ 0b0010000 = .ok (.idleWait 0)
    ∧ decode Config.reference ⟨.ss, 0⟩ 0b0111000 = .ok (.reqCancel 0 false)
    ∧ decode Config.reference ⟨.ss, 0⟩ 0b0110010 = .ok (.reqFire 0)
    ∧ decode Config.reference ⟨.ss, 0⟩ 0b0110000 = .ok (.reqStall 0)
    ∧ decode Config.reference ⟨.ss, 0⟩ 0b1011110 = .ok (.respDiscardNow 0 true)
    ∧ decode Config.reference ⟨.ss, 0⟩ 0b1010110 = .ok (.respDiscardPending 0)
    ∧ decode Config.reference ⟨.ss, 0⟩ 0b1010010 = .ok (.respCapture 0)
    ∧ decode Config.reference ⟨.ss, 0⟩ 0b1011100 = .ok (.respMarkCancel 0 true)
    ∧ decode Config.reference ⟨.ss, 0⟩ 0b1010100 = .ok (.respWait 0 true)
    ∧ decode Config.reference ⟨.ss, 0⟩ 0b1111000 = .ok (.wbCancel 0 false)
    ∧ decode Config.reference ⟨.ss, 0⟩ 0b1110010 = .ok (.wbFire 0)
    ∧ decode Config.reference ⟨.ss, 0⟩ 0b1110000 = .ok (.wbHold 0)
    ∧ decode Config.reference ⟨.ss, 0⟩ 0b0100000 = .ok (.slotInvariantFault 0 0b0100000) :=
  ⟨rfl, rfl, rfl, rfl, rfl, rfl, rfl, rfl, rfl, rfl, rfl, rfl, rfl, rfl, rfl, rfl, rfl, rfl⟩

/-- `SUB = valid[2] cls[1:0]` (R100; vectors SU-1 to SU-4). -/
theorem test_decode_submit :
    decode Config.reference ⟨.sub, 0⟩ 0b111 = .ok (.subBad 0)
    ∧ decode Config.reference ⟨.sub, 0⟩ 0b110 = .ok (.subCapture 0 .unord)
    ∧ decode Config.reference ⟨.sub, 2⟩ 0b000 = .ok (.subNone 2 .none) := ⟨rfl, rfl, rfl⟩

/-- `AS = v[5] fh[4] has_exc[3] need_replay[2] cls[1:0]` (R101; vectors AS-1 to AS-11). -/
theorem test_decode_admission :
    decode Config.reference ⟨.adm, 2⟩ 0b000000 = .ok (.admNone 2 false false false .none)
    ∧ decode Config.reference ⟨.adm, 0⟩ 0b100011 = .ok (.admBadClass 0 false false false)
    ∧ decode Config.reference ⟨.adm, 0⟩ 0b111001 = .ok (.admFlushed 0 true false .ord)
    ∧ decode Config.reference ⟨.adm, 1⟩ 0b101110 = .ok (.admExc 1 true .unord)
    ∧ decode Config.reference ⟨.adm, 1⟩ 0b100110 = .ok (.admReplay 1 .unord)
    ∧ decode Config.reference ⟨.adm, 1⟩ 0b100000 = .ok (.admUntracked 1)
    ∧ decode Config.reference ⟨.adm, 1⟩ 0b100001 = .ok (.admEnqOrd 1)
    ∧ decode Config.reference ⟨.adm, 0⟩ 0b100010 = .ok (.admEnqUnord 0) := ⟨rfl, rfl, rfl, rfl, rfl, rfl, rfl, rfl⟩

/-- `AL = enq_req[1] can[0]` (R102; vector AL-2). -/
theorem test_decode_alloc :
    decode Config.reference ⟨.al, 1⟩ 0b11 = .ok (.allocGrant 1)
    ∧ decode Config.reference ⟨.al, 2⟩ 0b10 = .ok (.allocReject 2)
    ∧ decode Config.reference ⟨.al, 0⟩ 0b01 = .ok (.allocNone 0 true) := ⟨rfl, rfl, rfl⟩

/-- `AR = any_ord[3] any_un[2] be_req_ready[1] ord_multi[0]` (R103; vectors AR-1 to AR-10). -/
theorem test_decode_arbiter :
    decode Config.reference ⟨.ar, 0⟩ 0b1011 = .ok (.arbOrdMultiFault false true)
    ∧ decode Config.reference ⟨.ar, 0⟩ 0b1110 = .ok (.arbOrdFire true)
    ∧ decode Config.reference ⟨.ar, 0⟩ 0b1000 = .ok (.arbOrdStall false)
    ∧ decode Config.reference ⟨.ar, 0⟩ 0b0110 = .ok (.arbUnordFire false)
    ∧ decode Config.reference ⟨.ar, 0⟩ 0b0100 = .ok (.arbUnordStall false)
    ∧ decode Config.reference ⟨.ar, 0⟩ 0b0010 = .ok (.arbIdle true false) := ⟨rfl, rfl, rfl, rfl, rfl, rfl⟩

/-- `RS = resp.valid[1] awaiting[0]` (R104; vectors RS-1, RS-2, RS-5). -/
theorem test_decode_response :
    decode Config.reference ⟨.rs, 0⟩ 0b11 = .ok .respDeliver
    ∧ decode Config.reference ⟨.rs, 0⟩ 0b10 = .ok .respStale
    ∧ decode Config.reference ⟨.rs, 0⟩ 0b01 = .ok (.respNone true) := ⟨rfl, rfl, rfl⟩

/-- `WO = ord_wb_multi[2] ord_wb_any[1] wb_ord_ready[0]`, `WU = un_any[1] wb_un_ready[0]` (R105; vectors WB-1 to WB-7). -/
theorem test_decode_writeback :
    decode Config.reference ⟨.wo, 0⟩ 0b111 = .ok (.wbOrdMultiFault true true)
    ∧ decode Config.reference ⟨.wo, 0⟩ 0b011 = .ok .wbOrdFire
    ∧ decode Config.reference ⟨.wo, 0⟩ 0b010 = .ok .wbOrdHold
    ∧ decode Config.reference ⟨.wo, 0⟩ 0b001 = .ok (.wbOrdNone true)
    ∧ decode Config.reference ⟨.wu, 0⟩ 0b11 = .ok (.wbUnFire 0)
    ∧ decode Config.reference ⟨.wu, 0⟩ 0b10 = .ok (.wbUnHold 0)
    ∧ decode Config.reference ⟨.wu, 1⟩ 0b01 = .ok (.wbUnNone 1 true) := ⟨rfl, rfl, rfl, rfl, rfl, rfl, rfl⟩

/-- `SZ = size[2:0]`, `FO = fault_any[0]` (R93, R106, R107). -/
theorem test_decode_shape_and_fault :
    decode Config.reference ⟨.sz, 0⟩ 0b000 = .ok (.szLb 0) ∧ decode Config.reference ⟨.sz, 0⟩ 0b001 = .ok (.szLh 0)
    ∧ decode Config.reference ⟨.sz, 0⟩ 0b010 = .ok (.szLw 0) ∧ decode Config.reference ⟨.sz, 0⟩ 0b011 = .ok (.szLd 0)
    ∧ decode Config.reference ⟨.sz, 0⟩ 0b100 = .ok (.szLbu 0) ∧ decode Config.reference ⟨.sz, 0⟩ 0b101 = .ok (.szLhu 0)
    ∧ decode Config.reference ⟨.sz, 0⟩ 0b110 = .ok (.szLwu 0) ∧ decode Config.reference ⟨.sz, 0⟩ 0b111 = .ok (.szRsv 0)
    ∧ decode Config.reference ⟨.fo, 0⟩ 0b1 = .ok .faultReport ∧ decode Config.reference ⟨.fo, 0⟩ 0b0 = .ok .faultNone :=
  ⟨rfl, rfl, rfl, rfl, rfl, rfl, rfl, rfl, rfl, rfl⟩

/-- `RB = rb_any[4] rb_tie[3] h_now[2] h_d1[1] h_d2[0]`, `BEREQ.cmd` (R108, R109; vectors RB-1, RB-5, RB-8). -/
theorem test_decode_rollback_and_command :
    decode Config.reference ⟨.rb, 0⟩ 0b00000 = .ok (.rbNone false false false false)
    ∧ decode Config.reference ⟨.rb, 0⟩ 0b11001 = .ok (.rbTieFault false false true)
    ∧ decode Config.reference ⟨.rb, 0⟩ 0b10000 = .ok .rbArm
    ∧ decode Config.reference ⟨.rb, 0⟩ 0b10100 = .ok (.rbSuppress true false false)
    ∧ decode Config.reference ⟨.be, 1⟩ 0b00000 = .ok (.beRead 1) := ⟨rfl, rfl, rfl, rfl, rfl⟩

/-- Rejections by name (R94; a slot the block does not have; a selector too wide). -/
theorem test_decode_rejects :
    decode Config.reference ⟨.be, 1⟩ 0b00001 = .error (.unknownCommand 1)
    ∧ decode Config.reference ⟨.ss, 4⟩ 0b00000 = .error (.noSuchSite ⟨.ss, 4⟩)
    ∧ decode Config.reference ⟨.fo, 0⟩ 0b10 = .error (.tooWide .fo 2) := ⟨rfl, rfl, rfl⟩

/-! ## Words (vectors EN-2 to EN-4, ER-2) -/

theorem test_beReqWord :
    beReqWord Config.reference { addr := 0x1008, mask8 := 0x0F, cmd := 0, tag := 1, atomic := false } = 0x400F1008
    ∧ beReqWord Config.reference { addr := 0x2004, mask8 := 0xF0, cmd := 0, tag := 2, atomic := true } = 0xA0F02004 := by decide

theorem test_mask8_high : mask8 { Request.unwritten with addr := 0xFFFF, mask := 0x8000 } = 0x80 := by decide
theorem test_mask8_low : mask8 { Request.unwritten with addr := 0, mask := 0xFF03 } = 0x03 := by decide
theorem test_beRespWord : beRespWord { valid := true, tag := 2, data := 0, err := true } = 0x50000000000000000 := by decide

/-! ## Shaping (vectors SZ-1 to SZ-3, SZ-7, SZ-11, SZ-12) -/

theorem test_shape_lb : shapeLb (0x00000000000080FF >>> subShift 1) = 0xFFFFFFFFFFFFFF80 := by decide
theorem test_shape_lh : shapeLh (0x0000000080010000 >>> subShift 2) = 0xFFFFFFFFFFFF8001 := by decide
theorem test_shape_lw : shapeLw (0x8765432100000000 >>> subShift 4) = 0xFFFFFFFF87654321 := by decide
theorem test_shape_lwu : shapeLwu (0x8765432100000000 >>> subShift 4) = 0x0000000087654321 := by decide
theorem test_shape_lh_misaligned : shapeLh (0x80FF000000000000 >>> subShift 7) = 0x0000000000000080 := by decide
theorem test_shape_ld_misaligned : shapeLd (0x1122334455667788 >>> subShift 3) = 0x0000001122334455 := by decide

/-! ## Ages, round robin, draw (vectors HT-1 to HT-4, RR-1 to RR-6, AL-3) -/

theorem test_hit :
    hit Config.reference 9 { valid := true, age := 8 } = true ∧ hit Config.reference 9 { valid := true, age := 9 } = true
    ∧ hit Config.reference 9 { valid := true, age := 10 } = false
    ∧ hit Config.reference 9 { valid := false, age := 3 } = false := by decide

/-- R6: in another order of the age keys, here the reverse one, the flush hits the other keys. -/
theorem test_rankOlder :
    rankOlder (fun a => -a) 9 8 = true ∧ rankOlder (fun a => -a) 8 9 = false ∧ rankOlder (fun a => -a) 9 9 = false := by
  decide +kernel

/-- A request vector from a list of indices. -/
def vec (l : List Nat) (i : Nat) : Bool := l.contains i

theorem test_roundRobin : roundRobin 4 0 (vec [0, 2]) = some 2 ∧ roundRobin 4 2 (vec [0, 2]) = some 0
    ∧ roundRobin 4 3 (vec [0, 1]) = some 0 ∧ roundRobin 4 1 (vec [1]) = some 1
    ∧ roundRobin 4 3 (vec [3]) = some 3 ∧ roundRobin 4 1 (vec [0, 2, 3]) = some 2 := by decide

theorem test_pick_reference : pick [] [false, true, false, true] 0 = some 1 ∧ pick [] [false, true, false, true] 1 = some 3 := by
  decide

/-- Another lawful draw of the same pool (R195). -/
theorem test_pick_other_draw :
    pick [1] [false, true, false, true] 0 = some 3 ∧ pick [1] [false, true, false, true] 1 = some 1 := by decide

/-! ## One cycle -/

/-- What a property says of the state after one cycle. -/
def after (s : State) (p : State → Bool) : Bool :=
  match step s with
  | .next t => p t
  | .fault _ => false
  | .refused _ => false

/-- The reset state under the inputs of a cycle that no line names (R112). -/
def quiet : State := { State.reset with env := .defaults }

/-- A reference block with the given first slots, its pool to match, and one line of inputs. -/
def block (slots : List Slot) (line : Input) : State := withLine (withSlots State.reset slots) line

/-- A slot in a state with a Request of an age and a class. -/
def slotOf (st : SlotState) (age : Nat) (cls : Cls) : Slot := stagedSlot st age cls

/-- Vector SS-4: cancellation beats eligibility; the slot is back in the pool. -/
theorem test_idle_cancel :
    after (block [slotOf .idle 9 .unord] { Input.idle with flush := { valid := true, age := 5 } })
      (fun t => !(t.slot 0).occ && t.regs.pool.getD 0 false) = true := by decide +kernel

/-- Vector SS-8: a flush of the slot's own age reaches it in `REQ`; nothing is sent. -/
theorem test_req_cancel :
    after (block [slotOf .req 20 .unord] { Input.idle with flush := { valid := true, age := 20 } })
      (fun t => !(t.slot 0).occ && t.out.beReq.isNone) = true := by decide +kernel

/-- Vector SS-12: the response is captured whole. -/
theorem test_resp_capture :
    after (block [slotOf .resp 1 .unord]
        { Input.idle with resp := { valid := true, tag := 0, data := 0x1122334455667788, err := false } })
      (fun t => decide ((t.slot 0).st = .wb) && decide ((t.slot 0).rdata = 0x1122334455667788)) = true := by decide +kernel

/-- Vector SS-13: a flush while the slot waits defers the free. -/
theorem test_resp_mark_cancel :
    after (block [slotOf .resp 9 .unord] { Input.idle with flush := { valid := true, age := 9 } })
      (fun t => (t.slot 0).occ && (t.slot 0).cpend && decide ((t.slot 0).st = .resp)) = true := by decide +kernel

/-- Vector RS-3: a response in the handoff cycle is stale. -/
theorem test_resp_stale :
    after (block [slotOf .req 1 .unord] { Input.idle with resp := { valid := true, tag := 0, data := 0, err := false } })
      (fun t => t.faultMark.staleResponse && decide ((t.slot 0).st = .resp)) = true := by decide +kernel

/-- Vector AR-3: an eligible ordered request goes before unordered ones; the pointer does not move. -/
theorem test_ordered_first :
    after { block [slotOf .req 3 .unord, slotOf .req 4 .unord, slotOf .req 5 .ord] Input.idle with
            regs := { (block [slotOf .req 3 .unord, slotOf .req 4 .unord, slotOf .req 5 .ord] Input.idle).regs with
                      tokD1 := { valid := true, age := 5 } } }
      (fun t => decide (t.out.beReq.map (·.tag) = some 2) && decide (t.regs.rrLast = 0)
        && decide ((t.slot 2).st = .resp) && decide ((t.slot 0).st = .req)) = true := by decide +kernel

/-- Vector WB-6: the lowest slot of a partition drains; the other port is independent. -/
theorem test_partitions :
    after (block [slotOf .wb 1 .unord, slotOf .wb 2 .unord, slotOf .wb 3 .unord] Input.idle)
      (fun t => !(t.slot 0).occ && !(t.slot 1).occ && (t.slot 2).occ) = true := by decide +kernel

/-- Vector FO-2: two accepted errors, the lower slot is reported. -/
theorem test_fault_out :
    after (block [Slot.reset, { slotOf .wb 1 .unord with rerr := true }, { slotOf .wb 2 .unord with rerr := true }] Input.idle)
      (fun t => decide (t.out.faultOut.map (fun r => (r.age, r.fault)) = some (1, true))
        && decide (t.out.wbUn.map (fun o => o.map Result.fault) = [some true, some true])) = true := by decide +kernel

/-- Vector RB-3: the oldest of three rejected candidates is elected. -/
theorem test_rollback_oldest :
    after (withStages (fullBlock (block [] Input.idle))
        [{ v := true, c := stagedCandidate 20 .unord }, { v := true, c := stagedCandidate 18 .unord },
          { v := true, c := stagedCandidate 25 .unord }])
      (fun t => t.regs.rb.v && decide (t.regs.rb.age = 18)) = true := by decide +kernel

/-! ## Witnesses: states that meet the hypotheses of the statements of Obligations.lean, each clause at a boundary -/

/-- A state in the middle of a cycle whose slot `i` has the given signals. -/
def slotProbe (i : Nat) (st : SlotState) (occ cancel cpend ev en : Bool) : State :=
  let sl : Slot := { slotOf st 1 (if decide (st = .idle) && !ev then .ord else .unord) with occ := occ, cpend := cpend }
  let s := State.reset
  { s with regs := { s.regs with slots := s.regs.slots.set i sl }, inp := { Input.idle with flush := stagedFlush cancel },
           wires := { s.wires with fire := s.wires.fire.set i ev, respHit := s.wires.respHit.set i ev,
                                   wbFire := s.wires.wbFire.set i ev },
           out := { s.out with enq := [none, if en then some i else none, none] } }

theorem witness_slot_occupied : ∀ i ∈ [0, 3], ∀ st ∈ [SlotState.idle, .req, .resp, .wb], ∀ cancel cpend ev en : Bool,
    i < State.reset.cfg.n ∧ SlotSignals (slotProbe i st true cancel cpend ev en) i st true cancel cpend ev en := by
  decide +kernel

theorem witness_slot_empty : ∀ i ∈ [0, 3], ∀ cpend en : Bool,
    SlotSignals (slotProbe i .idle false false cpend false en) i .idle false false cpend false en
      ∧ SlotSignals (slotProbe i .req false false cpend true en) i .req false false cpend true en := by decide +kernel

theorem witness_SlotTakesRequest :
    LeastIndex 3 (fun u => decide ((slotProbe 3 .idle false false false false true).out.enq.getD u none = some 3)) 1 := by decide

/-- A state in the middle of a cycle whose stage register of lane 2 has the given signals. -/
def stageProbe (v fh exc replay : Bool) (cls : Cls) : State :=
  { withStages State.reset
      [Stage.reset, Stage.reset, { v := v, c := { stagedCandidate 1 cls with hasExc := exc, needReplay := replay } }] with
    inp := { Input.idle with flush := stagedFlush fh, prod := [Submission.idle, Submission.idle, ⟨v, stagedCandidate 1 cls⟩] } }

theorem witness_stages : ∀ v fh exc replay : Bool, ∀ cls ∈ [Cls.none, .ord, .unord, .rsvd],
    StageSignals (stageProbe v fh exc replay cls) 2 v fh exc replay cls
      ∧ ((stageProbe v fh exc replay cls).submission 2).valid = v
      ∧ ((stageProbe v fh exc replay cls).submission 2).cand.cls = cls := by decide +kernel

/-- A state in the middle of a cycle in which every lane has an enqueue request or none, and as many slots are free as the
pool says. -/
def allocProbe (req : Bool) (pool : List Bool) : State :=
  { State.reset with regs := { State.reset.regs with pool := pool },
                     wires := { State.reset.wires with enqReq := [req, req, req] } }

theorem witness_AllocationOperations :
    enqReq (allocProbe true [false, true, true, true]) 2 = true
    ∧ countBelow 2 (enqReq (allocProbe true [false, true, true, true])) < [false, true, true, true].count true
    ∧ [false, true, true, false].count true ≤ countBelow 2 (enqReq (allocProbe true [false, true, true, false]))
    ∧ enqReq (allocProbe false []) 2 = false := by decide +kernel

/-- A reference block with four slots in the middle of a cycle; the token names age 1. -/
def midCycle (slots : List Slot) : State :=
  let s := withSlots State.reset slots
  { s with regs := { s.regs with tokD1 := { valid := true, age := 1 } } }

theorem witness_OrderedArbitration :
    LeastIndex 4 (ordReq (midCycle [slotOf .idle 9 .ord, slotOf .req 2 .ord, slotOf .req 3 .unord, slotOf .req 1 .ord])) 3
    ∧ (∀ h, h < 4 → ordReq (midCycle [slotOf .idle 9 .ord, slotOf .req 2 .ord, slotOf .req 3 .unord, slotOf .req 1 .ord]) h = true →
        h = 3)
    ∧ LeastIndex 4 (ordReq (midCycle [slotOf .req 1 .ord, slotOf .req 1 .ord])) 0
    ∧ ordReq (midCycle [slotOf .req 1 .ord, slotOf .req 1 .ord]) 1 = true := by decide +kernel

theorem witness_UnorderedArbitration :
    roundRobin 4 0 (unReq (midCycle [slotOf .req 3 .unord, slotOf .idle 1 .ord, slotOf .req 2 .ord, slotOf .req 5 .unord])) = some 3
    ∧ (∀ h, h < 4 → ordReq (midCycle [slotOf .req 3 .unord, slotOf .idle 1 .ord, slotOf .req 2 .ord, slotOf .req 5 .unord]) h = false)
    ∧ (∀ h, h < 4 → ordReq (midCycle [slotOf .wb 1 .ord]) h = false ∧ unReq (midCycle [slotOf .wb 1 .ord]) h = false) := by
  decide +kernel

theorem witness_ForwardedMessage :
    3 < State.reset.cfg.n ∧ State.reset.cfg.cmdRead < 2 ^ State.reset.cfg.cmdW
    ∧ (State.reset.driveBeReq (some (beReq State.reset 3))).out.beReq = some (beReq State.reset 3) := by decide

/-- A response with a tag in the middle of a cycle. -/
def answered (c : Config) (slots : List Slot) (valid : Bool) (tag : Nat) : State :=
  { withSlots (State.resetOf c) slots with inp := { Input.idle with resp := { Response.idle with valid := valid, tag := tag } } }

/-- A block whose slot count is no power of two, so that a tag can name no slot. -/
def threeSlots : Config := { Config.reference with n := 3, m := 2 }

theorem witness_ResponseOperations :
    (answered Config.reference (List.replicate 4 (slotOf .resp 1 .unord)) true 3).inp.resp.tag < Config.reference.n
    ∧ ((answered Config.reference (List.replicate 4 (slotOf .resp 1 .unord)) true 3).slot 3).st = .resp
    ∧ ¬((answered threeSlots (List.replicate 3 (slotOf .resp 1 .unord)) true 3).inp.resp.tag < 3) ∧ threeSlots.ok = true
    ∧ (answered threeSlots [] false 0).inp.resp.valid = false := by decide

theorem witness_OutputShaping : ∀ size : SizeCode,
    offered (midCycle [Slot.reset, Slot.reset, Slot.reset, { slotOf .wb 2 .unord with
      req := { (slotOf .wb 2 .unord).req with size := size } }]) 3 = true := by decide +kernel

theorem witness_OrderedWriteback :
    LeastIndex 4 (ordWb (midCycle [slotOf .wb 1 .unord, Slot.reset, Slot.reset, slotOf .wb 2 .ord])) 3
    ∧ (∀ h, h < 4 → ordWb (midCycle [slotOf .wb 1 .unord, Slot.reset, Slot.reset, slotOf .wb 2 .ord]) h = true → h = 3)
    ∧ LeastIndex 4 (ordWb (midCycle [slotOf .wb 1 .ord, slotOf .wb 2 .ord])) 0
    ∧ ordWb (midCycle [slotOf .wb 1 .ord, slotOf .wb 2 .ord]) 1 = true
    ∧ (∀ h, h < 4 → ordWb (midCycle [slotOf .wb 1 .unord]) h = false) := by decide +kernel

theorem witness_UnorderedWriteback :
    1 < Config.reference.p
    ∧ LeastIndex 4 (unWbOn (midCycle [slotOf .wb 1 .unord, Slot.reset, Slot.reset, slotOf .wb 2 .unord]) 1) 3
    ∧ (∀ h, h < 4 → unWbOn (midCycle [slotOf .wb 1 .unord]) 1 h = false) := by decide +kernel

theorem witness_FaultReporting :
    LeastIndex 4 (fun i => (slotProbe 3 .wb true false false true false).wires.wbFire.getD i false
      && ({ slotOf .wb 1 .unord with rerr := decide (i = 3) } : Slot).rerr) 3
    ∧ ∀ i, i < 4 → (State.reset.wires.wbFire.getD i false && (State.reset.slot i).rerr) = false := by decide +kernel

/-- A full block in the middle of a cycle, with rejected candidates of the given ages on its lanes. -/
def rejecting (ages : List Nat) : State :=
  { withStages State.reset (ages.map fun a => { v := true, c := stagedCandidate a .unord }) with
    wires := { State.reset.wires with enqReq := ages.map fun _ => true } }

theorem witness_RollbackOperations :
    LeastIndex 3 (rbOldest (rejecting [9, 7, 4])) 2 ∧ (∀ h, h < 3 → rbOldest (rejecting [9, 7, 4]) h = true → h = 2)
    ∧ LeastIndex 3 (rbOldest (rejecting [9, 4, 4])) 1 ∧ rbOldest (rejecting [9, 4, 4]) 2 = true
    ∧ (∀ w, w < 3 → enqReq (rejecting []) w = true → (rejecting []).out.enq.getD w none ≠ none) := by decide +kernel

theorem witness_stops :
    State.reset.cfg.n ≤ 4 ∧ State.reset.cfg.w ≤ 3 ∧ State.reset.cfg.p ≤ 2
    ∧ threeSlots.n ≤ (answered threeSlots [] true 3).inp.resp.tag
    ∧ (∀ i, i < 4 → ordReq State.reset i = false ∧ unReq State.reset i = false ∧ ordWb State.reset i = false
        ∧ unWbOn State.reset 1 i = false ∧ (State.reset.wires.wbFire.getD i false && (State.reset.slot i).rerr) = false)
    ∧ (∀ w, w < 3 → rbOldest State.reset w = false ∧ State.reset.out.enq.getD w none ≠ some 3)
    ∧ (allocProbe true [false, false, false, false]).regs.pool.count true
        ≤ countBelow 0 (enqReq (allocProbe true [false, false, false, false])) := by decide +kernel

theorem witness_encoding :
    Config.ok Config.reference = true ∧ WellFormed Config.reference (.respDiscardNow 3 true) = true
    ∧ WellFormed Config.reference (.beRead 3) = true ∧ WellFormed Config.reference (.rbSuppress false false true) = true
    ∧ decode Config.reference ⟨.rb, 0⟩ 0b11111 = .ok (.rbTieFault true true true)
    ∧ (1 < tableCount Config.reference .wu ∧ 0b11 < 2 ^ tableWidth Config.reference .wu) := by decide

theorem witness_MessagesRoundTrip :
    (0xFFFF < 2 ^ Config.reference.paddrBits ∧ 31 < 2 ^ Config.reference.cmdW ∧ 3 < 2 ^ Config.reference.idxW)
    ∧ 2 ^ 32 - 1 < 2 ^ (Config.reference.paddrBits + 9 + Config.reference.cmdW + Config.reference.idxW)
    ∧ 2 ^ 67 - 1 < 2 ^ (65 + Config.reference.idxW) := by decide

/-- The first components of the schedule, run from reset, and the next one. -/
theorem witness_StepRunsTheDecodedOperation :
    schedule Config.reference = [⟨.sub, 0⟩] ++ ⟨.sub, 1⟩ :: (schedule Config.reference).drop 2
    ∧ ∃ m, runSites [⟨.sub, 0⟩] (sample quiet) = .next m ∧ Performs m ⟨.sub, 1⟩ (.subNone 1 .none) :=
  ⟨by decide, _, rfl, by decide +kernel⟩

theorem after_next {s : State} {p : State → Bool} (h : after s p = true) : ∃ t, step s = .next t ∧ p t = true := by
  unfold after at h
  split at h
  · exact ⟨_, ‹_›, h⟩
  · cases h
  · cases h

/-- A block in which every state of a slot occurs, with a candidate, a rejected one, a flush that hits none of them, the token
and a response. -/
def busy : State :=
  let s := block [slotOf .resp 5 .unord, slotOf .req 6 .ord, slotOf .wb 7 .unord, slotOf .idle 8 .ord]
    { Input.idle with flush := { valid := true, age := 90 }, tok := { valid := true, age := 6 },
                      prod := [{ valid := true, cand := stagedCandidate 40 .ord }],
                      resp := { valid := true, tag := 0, data := 0x55, err := true } }
  let s := withStages s [{ v := true, c := stagedCandidate 20 .unord }]
  { s with regs := { s.regs with tokD1 := { valid := true, age := 6 } } }

theorem witness_invariant : Invariant busy := by decide +kernel

theorem witness_AgesUnique : AgesUnique busy :=
  ⟨by intro i (hi : i < 4) j (hj : j < 4); interval_cases i <;> interval_cases j <;> decide +kernel,
    by intro i (hi : i < 3) j (hj : j < 3); interval_cases i <;> interval_cases j <;> decide +kernel, by decide +kernel⟩

theorem witness_OrderedHead : OrderedHead busy := by intro i (hi : i < 4) j (hj : j < 4); interval_cases i <;> interval_cases j <;> decide +kernel

theorem witness_tokens : TokenInOrder busy busy.regs.tokD1 ∧ ChannelInOrder busy :=
  ⟨by intro i (hi : i < 4) j (hj : j < 4); interval_cases i <;> interval_cases j <;> decide +kernel,
    by decide +kernel⟩

theorem witness_ReachableStates : Reachable State.reset := ⟨Config.reference, 0, [], .free 0, by decide, rfl⟩

/-- The premise of every statement about a step, with what the cycle did: the capture, the ordered handoff, the writeback, the
rejection and the directive. -/
theorem witness_step : ∃ t, step busy = .next t
    ∧ (decide ((t.slot 0).st = .wb) && decide ((t.slot 1).st = .resp) && !(t.slot 2).occ && decide (t.slot 3 = busy.slot 3)
      && t.out.allocReject.getD 0 false && decide (t.regs.rb = { v := true, age := 20, restart := 0 })) = true :=
  after_next (by decide +kernel)

theorem witness_ArbiterOffer :
    Invariant (block [slotOf .req 3 .unord] Input.idle) ∧ LeastIndex 4 (ordReq (sample busy)) 1
    ∧ (∀ h, h < 4 → ordReq (sample (block [slotOf .req 3 .unord] Input.idle)) h = false)
    ∧ roundRobin 4 0 (unReq (sample (block [slotOf .req 3 .unord] Input.idle))) = some 0
    ∧ (∀ h, h < 4 → unReq (sample quiet) h = false)
    ∧ after (block [slotOf .req 3 .unord] Input.idle) (fun t => decide ((t.slot 0).st = .resp)) = true :=
  ⟨by decide +kernel, by decide +kernel⟩

theorem witness_RoundRobinIsFair : 3 < 4 ∧ roundRobin 4 3 (vec [1, 3]) = some 1
    ∧ rrDistance 4 3 1 = 1 ∧ rrDistance 4 3 3 = 3 ∧ rrDistance 4 1 3 = 1 := by decide

theorem witness_ResponseStaysInItsSlot : ∃ line, busy.script = line :: [] ∧ line.resp.tag % 2 ^ busy.cfg.idxW = 0 := ⟨_, rfl, rfl⟩

/-- A slot that waits for its response, cancelled earlier or now. -/
def cancelled (earlier now answer : Bool) : State :=
  block [Slot.reset, Slot.reset, Slot.reset, { slotOf .resp 1 .unord with cpend := earlier }]
    { Input.idle with flush := stagedFlush now, resp := { valid := answer, tag := 3, data := 7, err := true } }

theorem witness_DeferredFree_invariant : ∀ earlier now answer : Bool, Invariant (cancelled earlier now answer) := by
  decide +kernel

theorem witness_DeferredFree : ∀ earlier now answer : Bool, (earlier || now) = true →
    ((cancelled earlier now answer).slot 3).st = .resp
    ∧ (((cancelled earlier now answer).slot 3).cpend = true ∨ cancelNow (sample (cancelled earlier now answer)) 3 = true)
    ∧ after (cancelled earlier now answer) (fun t => decide ((t.slot 3).occ = !answer)) = true := by decide +kernel

/-- Two completed slots of either partition and an ordered one. -/
def completed : State := block [slotOf .wb 1 .unord, slotOf .wb 2 .unord, slotOf .wb 3 .ord] Input.idle

theorem witness_PortsCarryResults :
    LeastIndex 4 (ordWb (sample completed)) 2 ∧ LeastIndex 4 (unWbOn (sample completed) 1) 1
    ∧ (∀ i, i < 4 → ordWb (sample quiet) i = false ∧ unWbOn (sample quiet) 1 i = false) := by decide +kernel

theorem witness_Acceptance : Invariant completed
    ∧ after completed (fun t => decide (t.wires.wbFire = [true, true, true, false])) = true := by decide +kernel

/-- A full block that rejects candidates on its lanes, after the given flush two cycles ago. -/
def rejectingCycle (ages : List Nat) (d2 : AgeSignal) : State :=
  let s := withStages (fullBlock (block [] Input.idle)) (ages.map fun a => { v := true, c := stagedCandidate a .unord })
  { s with regs := { s.regs with flushD2 := d2 } }

theorem witness_OldestIsRolledBack :
    after (rejectingCycle [20, 18, 25] AgeSignal.reset)
        (fun t => decide (t.out.allocReject = [true, true, true]) && decide (t.regs.rb.age = 18) && t.regs.rb.v) = true
    ∧ after (rejectingCycle [20, 18, 25] { valid := true, age := 18 })
        (fun t => decide (t.out.allocReject = [true, true, true]) && !t.regs.rb.v) = true
    ∧ after quiet (fun t => decide (t.out.allocReject = [false, false, false])) = true := by decide +kernel

/-- A block like the reset state but for the fields that reset leaves unwritten. -/
def otherReset : State :=
  let s := quiet
  { s with regs := { s.regs with
      slots := List.replicate 4 { Slot.reset with rdata := 9, rerr := true, req := (stagedCandidate 3 .ord).toRequest },
      s2 := List.replicate 3 { Stage.reset with c := stagedCandidate 5 .rsvd }, flushD1 := { valid := false, age := 6 },
      rb := { v := false, age := 8, restart := 2 } } }

theorem witness_UnwrittenFieldsDoNotMatter : Alike quiet otherReset ∧ quiet ≠ otherReset := by decide +kernel

theorem witness_resets : Invariant quiet ∧ Invariant otherReset ∧ after quiet (fun _ => true) = true :=
  ⟨by decide +kernel, by decide +kernel, by decide +kernel⟩

/-- A block with four slots that wait under inputs that repeat without end. -/
def hung : State :=
  { withSlots State.reset [slotOf .resp 5 .unord, slotOf .idle 6 .ord, slotOf .wb 7 .ord, slotOf .wb 8 .unord] with
    env := .again [{ Input.idle with wbOrdReady := false, wbUnReady := [true, false] }] }

/-- A block whose slot in `REQ` meets a back end that is never ready, and whose completed slot 3 comes behind slot 1 in its
partition. -/
def crowded : State :=
  { withSlots State.reset [slotOf .req 5 .unord, slotOf .wb 6 .unord, Slot.reset, slotOf .wb 8 .unord] with
    env := .again [{ Input.idle with beReqReady := false }] }

theorem witness_WaitingIsUnbounded :
    Invariant hung ∧ (∀ i, i < 4 → WaitsUnder hung (nextInput hung) i) ∧ (∀ i, i < 4 → Waits hung i)
    ∧ Invariant crowded ∧ WaitsUnder crowded (nextInput crowded) 0 ∧ Waits crowded 0 ∧ Waits crowded 3
    ∧ after crowded (fun t => !(t.slot 1).occ && decide (t.slot 3 = crowded.slot 3)) = true :=
  ⟨by decide +kernel, by decide +kernel, by decide +kernel, by decide +kernel, by decide +kernel⟩

/-- R112: a cycle that no line names has the defaults, and the token stays as it was. -/
theorem test_stimulus_defaults :
    (stimulusInput Config.reference [{ cycle := 1, events := [Event.beBusy, .tokNone] }] 0 { valid := true, age := 5 }).onPorts
        Config.reference
      = ({ Input.idle with tok := { valid := true, age := 5 } } : Input).onPorts Config.reference := by decide

/-- The model's choice (log 22): of two events on one input the last wins, also over two lines of one cycle. -/
theorem test_stimulus_last_event_wins :
    (stimulusInput Config.reference
        [{ cycle := 2, events := [Event.flush 7, .flush 5] }, { cycle := 2, events := [Event.resp 1 3 true] },
          { cycle := 2, events := [Event.resp 2 4 false] }] 2 AgeSignal.reset)
      = { Input.defaults Config.reference AgeSignal.reset with
          flush := { valid := true, age := 5 }, resp := { valid := true, tag := 2, data := 4, err := false } } := by decide

end Sys2Proof.Tests
end

section
/-!
What the decoder picks, in the words of the signals: for each table whose operation the invariant depends on, the operation
that the selector formed from given signals decodes to (R98 to R102), in the order of the table's rows.
-/
namespace Sys2Proof.Machine

/-- The operation of slot `i` under given signals, read off the rows of R99: a grant to an occupied slot is a breach, an
empty slot takes what it is granted, and an occupied one cancels before it progresses. -/
def slotOp (i : Nat) (st : SlotState) (occ cancel cpend ev en : Bool) : Instr :=
  let breach := Instr.slotInvariantFault i (BitVec.ofNat 7 (ssWord st occ cancel cpend ev en))
  match occ, en with
  | true, true => .slotResubmitFault i st cancel cpend ev
  | false, false => if st = .idle ∧ cancel = false ∧ cpend = false then .slotEmpty i ev else breach
  | false, true => if st = .idle ∧ cancel = false ∧ cpend = false then .slotEnqWrite i ev else breach
  | true, false =>
    match st with
    | .idle => if cpend then breach else if cancel then .idleCancel i ev else if ev then .idleIssue i else .idleWait i
    | .req => if cpend then breach else if cancel then .reqCancel i ev else if ev then .reqFire i else .reqStall i
    | .resp =>
      if ev then if cancel then .respDiscardNow i cpend else if cpend then .respDiscardPending i else .respCapture i
      else if cancel then .respMarkCancel i cpend else .respWait i cpend
    | .wb => if cpend then breach else if cancel then .wbCancel i ev else if ev then .wbFire i else .wbHold i

theorem decodeSlot_ssWord (c : Config) (i : Nat) (st : SlotState) (occ cancel cpend ev en : Bool) :
    decodeSlot c i (ssWord st occ cancel cpend ev en) = slotOp i st occ cancel cpend ev en := by
  cases st <;> cases occ <;> cases cancel <;> cases cpend <;> cases ev <;> cases en <;> rfl

theorem decodeSubmit_subWord (c : Config) (w : Nat) (valid : Bool) (cls : Cls) :
    decodeSubmit c w (subWord valid cls) =
      if valid = false then .subNone w cls else if cls = .rsvd then .subBad w else .subCapture w cls := by
  cases valid <;> cases cls <;> rfl

/-- The operation of lane `w`'s admission under given signals, by the priorities of R101. -/
def admissionOp (w : Nat) (v fh exc replay : Bool) (cls : Cls) : Instr :=
  if v = false then .admNone w fh exc replay cls
  else if cls = .rsvd then .admBadClass w fh exc replay
  else if fh then .admFlushed w exc replay cls
  else if exc then .admExc w replay cls
  else if replay then .admReplay w cls
  else if cls = .ord then .admEnqOrd w
  else if cls = .unord then .admEnqUnord w
  else .admUntracked w

theorem decodeAdmission_admWord (c : Config) (w : Nat) (v fh exc replay : Bool) (cls : Cls) :
    decodeAdmission c w (admWord v fh exc replay cls) = admissionOp w v fh exc replay cls := by
  cases v <;> cases fh <;> cases exc <;> cases replay <;> cases cls <;> rfl

theorem decodeAlloc_alWord (c : Config) (w : Nat) (req can : Bool) :
    decodeAlloc c w (alWord req can) =
      if req = false then .allocNone w can else if can then .allocGrant w else .allocReject w := by
  cases req <;> cases can <;> rfl

/-- The operation that each table's own decoder picks; a component whose selector decodes performs this one. -/
def tableOp (c : Config) (x : Site) (w : Nat) : Instr :=
  match x.table with
  | .ss => decodeSlot c x.idx w
  | .sub => decodeSubmit c x.idx w
  | .adm => decodeAdmission c x.idx w
  | .al => decodeAlloc c x.idx w
  | .ar => decodeArbiter c w
  | .rs => decodeResponse c w
  | .wo => decodeWbOrd c w
  | .wu => decodeWbUnord c x.idx w
  | .sz => decodeShape c x.idx w
  | .fo => decodeFaultOut c w
  | .rb => decodeRollback c w
  | .be => .beRead x.idx

/-- What a selector decodes to, if it decodes: the component exists and its table's decoder picks the operation. -/
theorem eq_tableOp_of_decode {c : Config} {x : Site} {w : Nat} {i : Instr} (h : decode c x w = .ok i) :
    x.idx < tableCount c x.table ∧ i = tableOp c x w := by
  obtain ⟨t, k⟩ := x
  unfold decode at h
  split at h
  · cases h
  next hidx =>
    refine ⟨Nat.lt_of_not_le hidx, ?_⟩
    split at h
    · cases h
    next =>
      cases t
      case be =>
        dsimp only at h
        split at h
        · exact (Except.ok.inj h).symm
        · cases h
      all_goals exact (Except.ok.inj h).symm

theorem encode_tableOp_table (c : Config) (x : Site) (w : Nat) : (encode c (tableOp c x w)).1.table = x.table := by
  obtain ⟨t, k⟩ := x
  cases t
  case ss => show (encode c (decodeSlot c k w)).1.table = .ss; unfold decodeSlot; split <;> rfl
  case sub => show (encode c (decodeSubmit c k w)).1.table = .sub; unfold decodeSubmit; split <;> rfl
  case adm => show (encode c (decodeAdmission c k w)).1.table = .adm; unfold decodeAdmission; split <;> rfl
  case al => show (encode c (decodeAlloc c k w)).1.table = .al; unfold decodeAlloc; split <;> rfl
  case ar => show (encode c (decodeArbiter c w)).1.table = .ar; unfold decodeArbiter; split <;> rfl
  case rs => show (encode c (decodeResponse c w)).1.table = .rs; unfold decodeResponse; split <;> rfl
  case wo => show (encode c (decodeWbOrd c w)).1.table = .wo; unfold decodeWbOrd; split <;> rfl
  case wu => show (encode c (decodeWbUnord c k w)).1.table = .wu; unfold decodeWbUnord; split <;> rfl
  case sz => show (encode c (decodeShape c k w)).1.table = .sz; unfold decodeShape; split <;> rfl
  case fo => show (encode c (decodeFaultOut c w)).1.table = .fo; unfold decodeFaultOut; split <;> rfl
  case rb => show (encode c (decodeRollback c w)).1.table = .rb; unfold decodeRollback; split <;> rfl
  case be => rfl

/-- What decodes is an operation of the component's own table (R98). -/
theorem encode_table_of_decode {c : Config} {x : Site} {w : Nat} {i : Instr} (h : decode c x w = .ok i) :
    (encode c i).1.table = x.table := by
  rw [(eq_tableOp_of_decode h).2, encode_tableOp_table]

theorem tableOp_slot (s : State) (k : Nat) :
    tableOp s.cfg ⟨.ss, k⟩ (selector s ⟨.ss, k⟩) =
      slotOp k (s.slot k).st (s.slot k).occ (cancelNow s k) (s.slot k).cpend (progress s k) (enqEn s k) :=
  decodeSlot_ssWord ..

theorem tableOp_submit (s : State) (w : Nat) :
    tableOp s.cfg ⟨.sub, w⟩ (selector s ⟨.sub, w⟩) =
      if (s.submission w).valid = false then .subNone w (s.submission w).cand.cls
      else if (s.submission w).cand.cls = .rsvd then .subBad w else .subCapture w (s.submission w).cand.cls :=
  decodeSubmit_subWord ..

theorem tableOp_admission (s : State) (w : Nat) :
    tableOp s.cfg ⟨.adm, w⟩ (selector s ⟨.adm, w⟩) =
      admissionOp w (s.stage w).v (flushHit s w) (s.stage w).c.hasExc (s.stage w).c.needReplay (s.stage w).c.cls :=
  decodeAdmission_admWord ..

theorem tableOp_alloc (s : State) (w : Nat) :
    tableOp s.cfg ⟨.al, w⟩ (selector s ⟨.al, w⟩) =
      if enqReq s w = false then .allocNone w (canAlloc s w)
      else if canAlloc s w then .allocGrant w else .allocReject w :=
  decodeAlloc_alWord ..

end Sys2Proof.Machine
end

section
/-!
The registers and signals that an operation may write, by its table: each part of the state has one table that writes it
(R170 for the slots), and every other operation leaves it alone.
-/
namespace Sys2Proof.Machine

/-- From `s` to `s'` only what the operations of table `t` write has changed, of the registers' next values, the enqueue
requests, the grants and the free signals. -/
structure WritesOnly (t : Table) (s s' : State) : Prop where
  slots : t ≠ .ss → s'.nxt.slots = s.nxt.slots
  free : t ≠ .ss → s'.wires.free = s.wires.free
  stages : t ≠ .sub → s'.nxt.s2 = s.nxt.s2
  requests : t ≠ .adm → s'.wires.enqReq = s.wires.enqReq
  grants : t ≠ .al → s'.out.enq = s.out.enq
  pointer : t ≠ .ar → s'.nxt.rrLast = s.nxt.rrLast
  directive : t ≠ .rb → s'.nxt.rb = s.nxt.rb

theorem handoff_writesOnly (s : State) (g : Nat) (r : Bool) : WritesOnly .ar s (s.handoff g r) := by
  cases r <;> constructor <;> simp [State.handoff]

theorem drainOrd_writesOnly (s : State) (o : Nat) (r : Bool) : WritesOnly .wo s (s.drainOrd o r) := by
  cases r <;> constructor <;> simp [State.drainOrd]

theorem drainUn_writesOnly (s : State) (j u : Nat) (r : Bool) : WritesOnly .wu s (s.drainUn j u r) := by
  cases r <;> constructor <;> simp [State.drainUn]

/-- A mark is none of the parts. -/
theorem WritesOnly.of_raise {t : Table} {s s' : State} {r : FaultReason} (h : WritesOnly t (s.raise r) s') :
    WritesOnly t s s' :=
  ⟨h.slots, h.free, h.stages, h.requests, h.grants, h.pointer, h.directive⟩

/-- Every operation writes only what its table writes. -/
theorem exec_writesOnly {i : Instr} {s s' : State} (h : exec i s = .next s') : WritesOnly (encode s.cfg i).1.table s s' := by
  cases i with
  | slotResubmitFault | slotEmpty | idleCancel | idleIssue | idleWait | reqCancel | reqFire | reqStall | respDiscardNow
  | respDiscardPending | respCapture | respMarkCancel | respWait | wbCancel | wbFire | wbHold | slotInvariantFault =>
    obtain ⟨-, rfl⟩ := onSlot_eq_next.mp h
    constructor <;> simp [encode, State.freeSlot]
  | slotEnqWrite k _ =>
    simp only [exec, execSlotEnqWrite] at h
    split at h
    · obtain ⟨w, -, rfl⟩ := onChoice_eq_next.mp h
      constructor <;> simp [encode]
    · cases h
  | subBad | subCapture | subNone | admNone | admBadClass | admFlushed | admExc | admReplay | admUntracked | admEnqOrd
  | admEnqUnord | allocReject | allocNone =>
    obtain ⟨-, rfl⟩ := onLane_eq_next.mp h
    constructor <;> simp [encode]
  | allocGrant w =>
    simp only [exec, execAllocGrant] at h
    split at h
    · obtain ⟨x, -, rfl⟩ := onChoice_eq_next.mp h
      constructor <;> simp [encode]
    · cases h
  | arbOrdMultiFault _ r =>
    obtain ⟨g, -, rfl⟩ := onChoice_eq_next.mp h
    exact (handoff_writesOnly (s.raise .ordMulti) g r).of_raise
  | arbOrdFire | arbOrdStall | arbUnordStall =>
    obtain ⟨g, -, rfl⟩ := onChoice_eq_next.mp h
    exact handoff_writesOnly s g _
  | arbUnordFire =>
    obtain ⟨g, -, rfl⟩ := onChoice_eq_next.mp h
    constructor <;> simp [encode, State.handoff]
  | arbIdle | respStale | respNone | wbOrdNone | faultNone | rbNone | rbSuppress =>
    cases h
    constructor <;> simp [encode, State.disarmRb]
  | respDeliver | szLb | szLh | szLw | szLd | szLbu | szLhu | szLwu | szRsv | beRead =>
    obtain ⟨-, rfl⟩ := onSlot_eq_next.mp h
    constructor <;> simp [encode]
  | wbOrdMultiFault _ r =>
    obtain ⟨o, -, rfl⟩ := onChoice_eq_next.mp h
    exact (drainOrd_writesOnly (s.raise .wbOrdMulti) o r).of_raise
  | wbOrdFire | wbOrdHold =>
    obtain ⟨o, -, rfl⟩ := onChoice_eq_next.mp h
    exact drainOrd_writesOnly s o _
  | wbUnFire j | wbUnHold j =>
    simp only [exec, execWbUnFire, execWbUnHold] at h
    split at h
    · obtain ⟨u, -, rfl⟩ := onChoice_eq_next.mp h
      exact drainUn_writesOnly s j u _
    · cases h
  | wbUnNone =>
    obtain ⟨-, rfl⟩ := onPort_eq_next.mp h
    constructor <;> simp [encode]
  | faultReport =>
    obtain ⟨f, -, rfl⟩ := onChoice_eq_next.mp h
    constructor <;> simp [encode]
  | rbTieFault now d1 d2 =>
    obtain ⟨e, -, rfl⟩ := onChoice_eq_next.mp h
    dsimp only
    split <;> constructor <;> simp [encode, State.armRb, State.disarmRb]
  | rbArm =>
    obtain ⟨e, -, rfl⟩ := onChoice_eq_next.mp h
    constructor <;> simp [encode, State.armRb]

/-- A component's operation writes only what the component's table writes. -/
theorem exec_decoded_writesOnly {s s' : State} {x : Site} {w : Nat} {i : Instr} (hd : decode s.cfg x w = .ok i)
    (he : exec i s = .next s') : WritesOnly x.table s s' :=
  encode_table_of_decode hd ▸ exec_writesOnly he

end Sys2Proof.Machine
end

section
/-!
The small facts the invariant needs of lists, of the parameter types and of the sampled inputs.
-/
namespace Sys2Proof.Machine

/-! ## Entries of the arrays -/

theorem getD_modify_self {α : Type} {l : List α} {k : Nat} (h : k < l.length) (f : α → α) (d : α) :
    (l.modify k f).getD k d = f (l.getD k d) := by
  simp [List.getD_eq_getElem?_getD, h]

theorem getD_modify_ne {α : Type} (l : List α) {k j : Nat} (h : k ≠ j) (f : α → α) (d : α) :
    (l.modify k f).getD j d = l.getD j d := by
  simp [List.getD_eq_getElem?_getD, h]

theorem getD_set_self {α : Type} {l : List α} {k : Nat} (h : k < l.length) (a d : α) : (l.set k a).getD k d = a := by
  simp [List.getD_eq_getElem?_getD, h]

theorem getD_set_ne {α : Type} (l : List α) {k j : Nat} (h : k ≠ j) (a d : α) : (l.set k a).getD j d = l.getD j d := by
  simp [List.getD_eq_getElem?_getD, List.getElem?_set_ne h]

/-- An entry after a write is the old one, unless it is the written one. -/
theorem getD_set_cases {α : Type} (l : List α) (k j : Nat) (a d : α) :
    (j = k ∧ (l.set k a).getD j d = a) ∨ (l.set k a).getD j d = l.getD j d := by
  by_cases hj : k = j
  · subst hj
    by_cases hk : k < l.length
    · exact .inl ⟨rfl, getD_set_self hk a d⟩
    · exact .inr (by rw [List.set_eq_of_length_le (Nat.le_of_not_lt hk)])
  · exact .inr (getD_set_ne l hj a d)

@[simp] theorem getD_replicate_default {α : Type} (n j : Nat) (a : α) : (List.replicate n a).getD j a = a := by
  simp only [List.getD_eq_getElem?_getD, List.getElem?_replicate]
  split <;> rfl

/-! ## Parameter types (R6) -/

theorem hasToken_cutToken {τ : OpenType} (h : hasToken τ 0 = true) (x : Nat) : hasToken τ (cutToken τ x) = true := by
  cases τ with
  | none => rfl
  | some k => exact decide_eq_true (Nat.mod_lt x (of_decide_eq_true h))

/-- No parameter type of an admissible configuration is empty. -/
theorem hasToken_zero_of_ok {c : Config} (h : c.ok = true) :
    hasToken c.ages 0 = true ∧ hasToken c.idents 0 = true ∧ hasToken c.restarts 0 = true ∧ hasToken c.metas 0 = true := by
  simp only [Config.ok, Bool.and_eq_true] at h
  obtain ⟨⟨⟨⟨⟨-, ha⟩, hi⟩, hr⟩, hm⟩, -⟩ := h
  exact ⟨ha, hi, hr, hm⟩

/-! ## Sampled inputs (R49) -/

theorem fits_onPort {c : Config} (h : c.ok = true) (k : Candidate) : Fits c (k.onPort c).toRequest := by
  obtain ⟨ha, hi, hr, hm⟩ := hasToken_zero_of_ok h
  refine ⟨Nat.mod_lt _ (Nat.two_pow_pos _), ?_⟩
  simp [Candidate.onPort, hasToken_cutToken, ha, hi, hr, hm]

theorem nextInput_eq_onPorts (s : State) : ∃ x : Input, nextInput s = x.onPorts s.cfg := by
  unfold nextInput
  split <;> exact ⟨_, rfl⟩

theorem sample_submission_fits {s : State} (h : s.cfg.ok = true) {w : Nat} (hw : w < s.cfg.w) :
    Fits s.cfg ((sample s).submission w).cand.toRequest := by
  obtain ⟨x, hx⟩ := nextInput_eq_onPorts s
  have hsub : ((sample s).submission w).cand = ((x.prod.getD w Submission.idle).cand).onPort s.cfg := by
    simp [State.submission, hx, Input.onPorts, List.getD_eq_getElem?_getD, hw]
  rw [hsub]
  exact fits_onPort h _

theorem nextInput_flush_age {s : State} (h : s.cfg.ok = true) : hasToken s.cfg.ages (nextInput s).flush.age = true := by
  obtain ⟨x, hx⟩ := nextInput_eq_onPorts s
  rw [hx]
  exact hasToken_cutToken (hasToken_zero_of_ok h).1 _

theorem nextInput_tok_age {s : State} (h : s.cfg.ok = true) : hasToken s.cfg.ages (nextInput s).tok.age = true := by
  obtain ⟨x, hx⟩ := nextInput_eq_onPorts s
  rw [hx]
  exact hasToken_cutToken (hasToken_zero_of_ok h).1 _

/-! ## Running components -/

/-- A property that does not look at the trace, and that every operation a component's selector picks keeps, holds after all
the components have run. -/
theorem runSites_keeps_decoded {P : State → Prop} {xs : List Site}
    (htrace : ∀ m tr, P m → P { m with trace := tr })
    (hexec : ∀ x, x ∈ xs → ∀ m i m', P m → decode m.cfg x (selector m x) = .ok i → exec i m = .next m' → P m')
    {s s' : State} (hp : P s) (h : runSites xs s = .next s') : P s' := by
  refine runSites_keeps (fun x hx m m' hm hr => ?_) hp h
  rcases runSite_eq_next.mp hr with ⟨-, rfl⟩ | ⟨-, i, hd, he⟩
  · exact hm
  · exact hexec x hx { m with trace := m.trace ++ [(x, selector m x)] } i m' (htrace _ _ hm) hd he

/-- The slots are the last components of a cycle (R135). -/
theorem schedule_eq_append (c : Config) :
    schedule c = phaseOrder.dropLast.flatMap (sitesOf c) ++ sitesOf c .ss := by
  simp [schedule, phaseOrder]

theorem not_slot_of_mem_dropLast {c : Config} {x : Site} (h : x ∈ phaseOrder.dropLast.flatMap (sitesOf c)) : x.table ≠ .ss := by
  obtain ⟨t, ht, hx⟩ := List.mem_flatMap.mp h
  obtain ⟨k, -, rfl⟩ := List.mem_map.mp hx
  rintro rfl
  exact absurd ht (by decide)

end Sys2Proof.Machine
end

section
/-!
What the operations of a table write, said once for each table whose writes the invariant of the registers is about.
-/
namespace Sys2Proof.Machine

/-- A submission writes its lane's stage register (R211 to R213): it holds nothing, or the submitted candidate, whose class is
then no reserved one. -/
theorem exec_submit {s s' : State} {w : Nat}
    (h : exec (tableOp s.cfg ⟨.sub, w⟩ (selector s ⟨.sub, w⟩)) s = .next s') :
    ∃ f : Stage → Stage, s'.nxt.s2 = s.nxt.s2.modify w f ∧
      ∀ r, (f r).v = true → (f r).c = (s.submission w).cand ∧ (s.submission w).cand.cls ≠ .rsvd := by
  rw [tableOp_submit] at h
  split at h
  · obtain ⟨-, rfl⟩ := onLane_eq_next.mp h
    exact ⟨fun r => { r with v := false }, rfl, by simp⟩
  · split at h
    · obtain ⟨-, rfl⟩ := onLane_eq_next.mp h
      exact ⟨fun r => { r with v := false }, rfl, by simp⟩
    next hcls =>
      obtain ⟨-, rfl⟩ := onLane_eq_next.mp h
      exact ⟨fun _ => { v := true, c := (s.submission w).cand }, rfl, fun _ _ => ⟨rfl, hcls⟩⟩

/-- The lane holds a valid Candidate of a tracked class that no flush hits, without exception and replay (R221, R222). -/
def admits (s : State) (w : Nat) : Bool :=
  (s.stage w).v && !flushHit s w && !(s.stage w).c.hasExc && !(s.stage w).c.needReplay
    && (decide ((s.stage w).c.cls = .ord) || decide ((s.stage w).c.cls = .unord))

/-- Admission sets its lane's enqueue request exactly when the lane admits its Candidate (R223). -/
theorem exec_admission {s s' : State} {w : Nat}
    (h : exec (tableOp s.cfg ⟨.adm, w⟩ (selector s ⟨.adm, w⟩)) s = .next s') :
    s'.wires.enqReq = s.wires.enqReq.set w (admits s w) := by
  rw [tableOp_admission] at h
  unfold admissionOp at h
  split_ifs at h
  all_goals
    obtain ⟨-, rfl⟩ := onLane_eq_next.mp h
    simp_all [admits]

/-- Allocation grants an index only to a lane with an enqueue request (R192). -/
theorem exec_alloc {s s' : State} {w : Nat}
    (h : exec (tableOp s.cfg ⟨.al, w⟩ (selector s ⟨.al, w⟩)) s = .next s') :
    ∃ g : Option Nat, s'.out.enq = s.out.enq.set w g ∧ (g.isSome = true → enqReq s w = true) := by
  rw [tableOp_alloc] at h
  split at h
  · obtain ⟨-, rfl⟩ := onLane_eq_next.mp h
    exact ⟨none, rfl, by simp⟩
  next hreq =>
    split at h
    · simp only [exec, execAllocGrant] at h
      split at h
      · obtain ⟨g, -, rfl⟩ := onChoice_eq_next.mp h
        exact ⟨some g, rfl, fun _ => by simpa using hreq⟩
      · cases h
    · obtain ⟨-, rfl⟩ := onLane_eq_next.mp h
      exact ⟨none, rfl, by simp⟩

theorem roundRobin_lt {n last g : Nat} {r : Nat → Bool} (h : roundRobin n last r = some g) : g < n := by
  unfold roundRobin at h
  split at h
  next hlater =>
    cases h
    exact (leastBelow_eq_some.mp hlater).1
  · exact (leastBelow_eq_some.mp h).1

/-- The arbiter moves the round-robin pointer to a slot index, or leaves it (R233, R242). -/
theorem exec_arbiter {s s' : State} {k : Nat} {w : Nat} (h : exec (tableOp s.cfg ⟨.ar, k⟩ w) s = .next s') :
    s'.nxt.rrLast = s.nxt.rrLast ∨ s'.nxt.rrLast < s.cfg.n := by
  simp only [tableOp, decodeArbiter] at h
  split at h
  · obtain ⟨g, -, rfl⟩ := onChoice_eq_next.mp h
    exact .inl (by simp [handoff_nxt])
  · obtain ⟨g, -, rfl⟩ := onChoice_eq_next.mp h
    exact .inl (by simp [handoff_nxt])
  · obtain ⟨g, -, rfl⟩ := onChoice_eq_next.mp h
    exact .inl (by simp [handoff_nxt])
  · obtain ⟨g, hg, rfl⟩ := onChoice_eq_next.mp h
    exact .inr (roundRobin_lt hg)
  · obtain ⟨g, -, rfl⟩ := onChoice_eq_next.mp h
    exact .inl (by simp [handoff_nxt])
  · cases h
    exact .inl rfl

/-- The elected lane has a candidate, so it has an enqueue request (R290, R291). -/
theorem enqReq_of_rbElected {s : State} {e : Nat} (h : rbElected s = some e) : enqReq s e = true := by
  have hold := (leastBelow_eq_some.mp h).2.1
  simp only [rbOldest, rbCand, Bool.and_eq_true] at hold
  exact hold.1.1

/-- The rollback selector leaves a directive only of the elected lane (R294). -/
theorem exec_rollback {s s' : State} {k : Nat} {w : Nat} (h : exec (tableOp s.cfg ⟨.rb, k⟩ w) s = .next s')
    (hv : s'.nxt.rb.v = true) :
    ∃ e, rbElected s = some e ∧ s'.nxt.rb = { v := true, age := (s.stage e).c.age, restart := (s.stage e).c.restart } := by
  simp only [tableOp, decodeRollback] at h
  split at h
  · cases h
    simp [State.disarmRb] at hv
  · obtain ⟨e, he, rfl⟩ := onChoice_eq_next.mp h
    dsimp only at hv ⊢
    split at hv
    · simp [State.disarmRb] at hv
    next hsup => exact ⟨e, he, by rw [if_neg hsup]; rfl⟩
  · obtain ⟨e, he, rfl⟩ := onChoice_eq_next.mp h
    exact ⟨e, he, rfl⟩
  · cases h
    simp [State.disarmRb] at hv

end Sys2Proof.Machine
end

section
/-!
What a slot's operation makes of a sound slot (41_slot.md): the slot stays sound, what it holds is tracked, and its index
is in the next pool exactly when it is empty.
-/
namespace Sys2Proof.Machine

/-- A slot after its operation: sound, holding only a tracked Request, and empty exactly when its index is in the next pool,
which is when it was empty and not granted (`occ`, `en`) or has been freed (R194). -/
structure SlotKept (c : Config) (occ en : Bool) (sl : Slot) (freed : Bool) : Prop where
  sound : SlotSound sl
  tracked : sl.occ = true → Tracked c sl.req
  pool : ((!occ && !en) || freed) = !sl.occ

/-- From `s` to `s'` slot `k` is written by `f`, and its free signal is raised if `freed`. -/
abbrev SlotWrite (k : Nat) (s s' : State) (f : Slot → Slot) (freed : Bool) : Prop :=
  s'.nxt.slots = s.nxt.slots.modify k f ∧ s'.wires.free = if freed then s.wires.free.set k true else s.wires.free

theorem onSlot_slotWrite_of_same {k : Nat} {s t s' : State} (h : onSlot s k t = .next s')
    (ht : t.nxt = s.nxt ∧ t.wires = s.wires) : SlotWrite k s s' id false := by
  obtain ⟨-, rfl⟩ := onSlot_eq_next.mp h
  simp [SlotWrite, ht]

theorem onSlot_slotWrite_of_writeSlot {k : Nat} {s s' : State} {f : Slot → Slot}
    (h : onSlot s k (s.writeSlot k f) = .next s') : SlotWrite k s s' f false := by
  obtain ⟨-, rfl⟩ := onSlot_eq_next.mp h
  simp [SlotWrite]

theorem onSlot_slotWrite_of_freeSlot {k : Nat} {s s' : State} {f : Slot → Slot}
    (h : onSlot s k (s.freeSlot k f) = .next s') : SlotWrite k s s' f true := by
  obtain ⟨-, rfl⟩ := onSlot_eq_next.mp h
  simp [SlotWrite, State.freeSlot]

section
variable {c : Config} {sl : Slot}

theorem slotKept_of_empty (hs : SlotSound sl) (hocc : sl.occ = false) : SlotKept c false false sl false :=
  ⟨hs, by simp [hocc], by simp [hocc]⟩

/-- A slot that stays occupied, in a state that allows its pending cancel. -/
theorem slotKept_of_occupied {en : Bool} (ht : Tracked c sl.req) (hocc : sl.occ = true)
    (hc : sl.cpend = true → sl.st = .resp) : SlotKept c true en sl false :=
  ⟨⟨fun _ => hocc, hc, by simp [hocc]⟩, fun _ => ht, by simp [hocc]⟩

theorem slotKept_of_freed (hocc : sl.occ = false) (hst : sl.st = .idle) (hc : sl.cpend = false) :
    SlotKept c true false sl true :=
  ⟨⟨by simp [hst], by simp [hc], fun _ => hc⟩, by simp [hocc], by simp [hocc]⟩

end

/-- An empty slot stays empty or takes the Request it is granted (R151, R152). -/
theorem exec_slotOp_empty {s s' : State} {k : Nat} {ev en : Bool} (hsound : SlotSound (s.slot k))
    (hocc : (s.slot k).occ = false)
    (hgrant : ∀ w, laneOf s k = some w → Tracked s.cfg (s.stage w).c.toRequest)
    (h : exec (slotOp k (s.slot k).st false (cancelNow s k) (s.slot k).cpend ev en) s = .next s') :
    ∃ f freed, SlotWrite k s s' f freed ∧ SlotKept s.cfg false en (f (s.slot k)) freed := by
  have ⟨hidle, _, hcpend⟩ := hsound
  have hst : (s.slot k).st = .idle := by
    by_contra hne
    simp [hidle hne] at hocc
  have hcancel : cancelNow s k = false := by simp [cancelNow, hocc]
  simp only [slotOp, hst, hcancel, hcpend hocc, and_self, if_true] at h
  cases en with
  | false => exact ⟨id, false, onSlot_slotWrite_of_same h ⟨rfl, rfl⟩, slotKept_of_empty hsound hocc⟩
  | true =>
    simp only [exec, execSlotEnqWrite] at h
    split at h
    · obtain ⟨w, hw, rfl⟩ := onChoice_eq_next.mp h
      exact ⟨fun sl => { sl with occ := true, st := .idle, req := (s.stage w).c.toRequest, cpend := false }, false,
        ⟨rfl, rfl⟩, ⟨by simp [SlotSound], fun _ => hgrant w hw, rfl⟩⟩
    · cases h

/-- An occupied slot that no lane is granted moves on, waits or frees, by its state (R154 to R167). -/
theorem exec_slotOp_occupied {s s' : State} {k : Nat} {cancel ev : Bool}
    (hocc : (s.slot k).occ = true) (hcpend : (s.slot k).cpend = true → (s.slot k).st = .resp)
    (hreq : Tracked s.cfg (s.slot k).req)
    (h : exec (slotOp k (s.slot k).st true cancel (s.slot k).cpend ev false) s = .next s') :
    ∃ f freed, SlotWrite k s s' f freed ∧ SlotKept s.cfg true false (f (s.slot k)) freed := by
  have stays : SlotKept s.cfg true false (s.slot k) false := slotKept_of_occupied hreq hocc hcpend
  have hnone (hst : (s.slot k).st ≠ .resp) : (s.slot k).cpend = false := by
    by_contra hc
    exact hst (hcpend (by simpa using hc))
  cases hst : (s.slot k).st with
  | idle =>
    have hc := hnone (by simp [hst])
    simp only [slotOp, hst, hc, Bool.false_eq_true, if_false] at h
    split at h
    · exact ⟨_, _, onSlot_slotWrite_of_freeSlot h, slotKept_of_freed rfl hst hc⟩
    · split at h
      · exact ⟨_, _, onSlot_slotWrite_of_writeSlot h, slotKept_of_occupied hreq hocc (by simp [hc])⟩
      · exact ⟨_, _, onSlot_slotWrite_of_same h ⟨rfl, rfl⟩, stays⟩
  | req =>
    have hc := hnone (by simp [hst])
    simp only [slotOp, hst, hc, Bool.false_eq_true, if_false] at h
    split at h
    · exact ⟨_, _, onSlot_slotWrite_of_freeSlot h, slotKept_of_freed rfl rfl hc⟩
    · split at h
      · exact ⟨_, _, onSlot_slotWrite_of_writeSlot h, slotKept_of_occupied hreq hocc (by simp)⟩
      · exact ⟨_, _, onSlot_slotWrite_of_same h ⟨rfl, rfl⟩, stays⟩
  | resp =>
    simp only [slotOp, hst] at h
    split at h
    · split at h
      · exact ⟨_, _, onSlot_slotWrite_of_freeSlot h, slotKept_of_freed rfl rfl rfl⟩
      · split at h
        · exact ⟨_, _, onSlot_slotWrite_of_freeSlot h, slotKept_of_freed rfl rfl rfl⟩
        next hc => exact ⟨_, _, onSlot_slotWrite_of_writeSlot h, slotKept_of_occupied hreq hocc (fun hp => absurd hp hc)⟩
    · split at h
      · exact ⟨_, _, onSlot_slotWrite_of_writeSlot h, slotKept_of_occupied hreq hocc (fun _ => hst)⟩
      · exact ⟨_, _, onSlot_slotWrite_of_same h ⟨rfl, rfl⟩, stays⟩
  | wb =>
    have hc := hnone (by simp [hst])
    simp only [slotOp, hst, hc, Bool.false_eq_true, if_false] at h
    split at h
    · exact ⟨_, _, onSlot_slotWrite_of_freeSlot h, slotKept_of_freed rfl rfl hc⟩
    · split at h
      · exact ⟨_, _, onSlot_slotWrite_of_freeSlot h, slotKept_of_freed rfl rfl hc⟩
      · exact ⟨_, _, onSlot_slotWrite_of_same h ⟨rfl, rfl⟩, stays⟩

/-- The operation that a sound slot's signals pick writes the slot to a sound one; a grant to an occupied slot marks the
breach and writes nothing (R153). -/
theorem exec_slot {s s' : State} {k : Nat} (hsound : SlotSound (s.slot k))
    (htracked : (s.slot k).occ = true → Tracked s.cfg (s.slot k).req)
    (hgrant : ∀ w, laneOf s k = some w → Tracked s.cfg (s.stage w).c.toRequest)
    (h : exec (tableOp s.cfg ⟨.ss, k⟩ (selector s ⟨.ss, k⟩)) s = .next s') :
    ∃ f freed, SlotWrite k s s' f freed ∧ SlotKept s.cfg (s.slot k).occ (enqEn s k) (f (s.slot k)) freed := by
  rw [tableOp_slot] at h
  cases hocc : (s.slot k).occ with
  | false => exact exec_slotOp_empty hsound hocc hgrant (hocc ▸ h)
  | true =>
    have hreq := htracked hocc
    have ⟨_, hcpend, _⟩ := hsound
    rw [hocc] at h
    cases hen : enqEn s k with
    | false => exact exec_slotOp_occupied hocc hcpend hreq (hen ▸ h)
    | true =>
      rw [hen] at h
      exact ⟨id, false, onSlot_slotWrite_of_same h ⟨rfl, rfl⟩, slotKept_of_occupied hreq hocc hcpend⟩

end Sys2Proof.Machine
end

section
/-!
The invariant of the registers through a cycle (O31). First what every point of a cycle has, whatever component comes next;
then the slots, which come last, one after another; then the boundary.
-/
namespace Sys2Proof.Machine

/-! ## At every point of the cycle -/

/-- The lane holds a Candidate that may become a Request: valid and of a tracked class. -/
abbrev Admissible (s : State) (w : Nat) : Prop :=
  w < s.cfg.w ∧ (s.stage w).v = true ∧ ((s.stage w).c.cls = .ord ∨ (s.stage w).c.cls = .unord)

/-- What holds at every point `m` of the cycle that starts from `s`: the next values but the slots' meet the invariant, and
only lanes with an admissible Candidate have an enqueue request or a grant. -/
structure MidCycle (s m : State) : Prop where
  view : SameView (sample s) m
  stagesLength : m.nxt.s2.length = s.cfg.w
  stages : ∀ w, w < s.cfg.w → (m.nxt.s2.getD w Stage.reset).v = true →
    (m.nxt.s2.getD w Stage.reset).c.cls ≠ .rsvd ∧ Fits s.cfg (m.nxt.s2.getD w Stage.reset).c.toRequest
  pointer : m.nxt.rrLast < s.cfg.n
  directive : m.nxt.rb.v = true → (hasToken s.cfg.ages m.nxt.rb.age && hasToken s.cfg.restarts m.nxt.rb.restart) = true
  requests : ∀ w, enqReq m w = true → Admissible s w
  grants : ∀ w, enqOk m w = true → Admissible s w

section
variable {s m : State}

theorem sameView_slot (h : SameView (sample s) m) (k : Nat) : m.slot k = s.slot k := by
  obtain ⟨-, -, hregs, -⟩ := h
  simp [State.slot, hregs]

theorem sameView_stage (h : SameView (sample s) m) (w : Nat) : m.stage w = s.stage w := by
  obtain ⟨-, -, hregs, -⟩ := h
  simp [State.stage, hregs]

theorem sameView_submission (h : SameView (sample s) m) (w : Nat) : m.submission w = (sample s).submission w := by
  obtain ⟨-, -, -, hinp, -⟩ := h
  simp [State.submission, hinp]

theorem admissible_tracked (hinv : Invariant s) {w : Nat} (h : Admissible s w) : Tracked s.cfg (s.stage w).c.toRequest := by
  obtain ⟨-, -, -, -, -, -, hstages, -⟩ := hinv
  obtain ⟨hw, hv, hcls⟩ := h
  exact ⟨hcls, (hstages w hw hv).2⟩

theorem midCycle_sample (hinv : Invariant s) : MidCycle s (sample s) := by
  obtain ⟨-, ⟨-, -, hlen⟩, -, hrr, -, -, hstages, -, hrb⟩ := hinv
  refine ⟨by simp [SameView], hlen, hstages, hrr, hrb, fun w h => ?_, fun w h => ?_⟩
  · simp [enqReq, Wires.idle] at h
  · simp [enqOk, enqIdx, outputBase] at h

/-! Each part is kept by every operation: by the ones of its own table for a reason, by the others because they do not write
it. -/

variable {x : Site} {m' : State}

theorem stages_kept (hinv : Invariant s) (hm : MidCycle s m) (hx : x.idx < tableCount m.cfg x.table)
    (he : exec (tableOp m.cfg x (selector m x)) m = .next m') (hother : x.table ≠ .sub → m'.nxt.s2 = m.nxt.s2) :
    m'.nxt.s2.length = s.cfg.w ∧
      ∀ w, w < s.cfg.w → (m'.nxt.s2.getD w Stage.reset).v = true →
        (m'.nxt.s2.getD w Stage.reset).c.cls ≠ .rsvd ∧ Fits s.cfg (m'.nxt.s2.getD w Stage.reset).c.toRequest := by
  by_cases ht : x.table = .sub
  · obtain ⟨t, k⟩ := x
    subst ht
    obtain ⟨f, hf, hv⟩ := exec_submit he
    have hcfg : m.cfg = s.cfg := hm.view.1
    have hk : k < s.cfg.w := hcfg ▸ hx
    rw [hf]
    refine ⟨by simpa using hm.stagesLength, fun w hw hwv => ?_⟩
    by_cases hkw : k = w
    · subst hkw
      rw [getD_modify_self (by simpa [hm.stagesLength] using hk)] at hwv ⊢
      obtain ⟨hc, hcls⟩ := hv _ hwv
      rw [hc]
      rw [sameView_submission hm.view] at hcls ⊢
      exact ⟨hcls, sample_submission_fits hinv.1 hk⟩
    · rw [getD_modify_ne _ hkw] at hwv ⊢
      exact hm.stages w hw hwv
  · rw [hother ht]
    exact ⟨hm.stagesLength, hm.stages⟩

theorem requests_kept (hm : MidCycle s m) (hx : x.idx < tableCount m.cfg x.table)
    (he : exec (tableOp m.cfg x (selector m x)) m = .next m')
    (hother : x.table ≠ .adm → m'.wires.enqReq = m.wires.enqReq) (w : Nat) (hw : enqReq m' w = true) : Admissible s w := by
  by_cases ht : x.table = .adm
  · obtain ⟨t, k⟩ := x
    subst ht
    rw [enqReq, exec_admission he] at hw
    rcases getD_set_cases m.wires.enqReq k w (admits m k) false with ⟨rfl, hset⟩ | hold
    · rw [hset] at hw
      simp only [admits, Bool.and_eq_true, Bool.or_eq_true, decide_eq_true_eq, sameView_stage hm.view] at hw
      obtain ⟨⟨⟨⟨hv, -⟩, -⟩, -⟩, hcls⟩ := hw
      have hcfg : m.cfg = s.cfg := hm.view.1
      exact ⟨hcfg ▸ hx, hv, hcls⟩
    · rw [hold] at hw
      exact hm.requests w hw
  · rw [enqReq, hother ht] at hw
    exact hm.requests w hw

theorem grants_kept (hm : MidCycle s m) (he : exec (tableOp m.cfg x (selector m x)) m = .next m')
    (hother : x.table ≠ .al → m'.out.enq = m.out.enq) (w : Nat) (hw : enqOk m' w = true) : Admissible s w := by
  by_cases ht : x.table = .al
  · obtain ⟨t, k⟩ := x
    subst ht
    obtain ⟨g, hg, hreq⟩ := exec_alloc he
    rw [enqOk, enqIdx, hg] at hw
    rcases getD_set_cases m.out.enq k w g none with ⟨rfl, hset⟩ | hold
    · rw [hset] at hw
      exact hm.requests w (hreq hw)
    · rw [hold] at hw
      exact hm.grants w hw
  · rw [enqOk, enqIdx, hother ht] at hw
    exact hm.grants w hw

theorem pointer_kept (hm : MidCycle s m) (he : exec (tableOp m.cfg x (selector m x)) m = .next m')
    (hother : x.table ≠ .ar → m'.nxt.rrLast = m.nxt.rrLast) : m'.nxt.rrLast < s.cfg.n := by
  by_cases ht : x.table = .ar
  · obtain ⟨t, k⟩ := x
    subst ht
    rcases exec_arbiter he with hold | hnew
    · exact hold ▸ hm.pointer
    · have hcfg : m.cfg = s.cfg := hm.view.1
      exact hcfg ▸ hnew
  · exact hother ht ▸ hm.pointer

theorem directive_kept (hinv : Invariant s) (hm : MidCycle s m)
    (he : exec (tableOp m.cfg x (selector m x)) m = .next m') (hother : x.table ≠ .rb → m'.nxt.rb = m.nxt.rb)
    (hv : m'.nxt.rb.v = true) :
    (hasToken s.cfg.ages m'.nxt.rb.age && hasToken s.cfg.restarts m'.nxt.rb.restart) = true := by
  by_cases ht : x.table = .rb
  · obtain ⟨t, k⟩ := x
    subst ht
    obtain ⟨e, hel, hrb⟩ := exec_rollback he hv
    obtain ⟨-, -, hfits⟩ := admissible_tracked hinv (hm.requests e (enqReq_of_rbElected hel))
    rw [hrb, sameView_stage hm.view]
    simp only [Bool.and_eq_true] at hfits ⊢
    obtain ⟨⟨⟨hage, -⟩, hrestart⟩, -⟩ := hfits
    exact ⟨hage, hrestart⟩
  · rw [hother ht] at hv ⊢
    exact hm.directive hv

theorem sameView_exec {i : Instr} (h : SameView (sample s) m) (he : exec i m = .next m') : SameView (sample s) m' := by
  obtain ⟨hcfg, ht, hregs, hinp, hscript, henv⟩ := h
  obtain ⟨gcfg, gt, gregs, ginp, gscript, genv, -⟩ := exec_snapshot he
  exact ⟨gcfg.trans hcfg, gt.trans ht, gregs.trans hregs, ginp.trans hinp, gscript.trans hscript, genv.trans henv⟩

/-- Whatever operation comes next, the point after it is as every point of the cycle. -/
theorem midCycle_exec {i : Instr} (hinv : Invariant s) (hm : MidCycle s m) (hd : decode m.cfg x (selector m x) = .ok i)
    (he : exec i m = .next m') : MidCycle s m' := by
  have hw := exec_decoded_writesOnly hd he
  obtain ⟨hx, rfl⟩ := eq_tableOp_of_decode hd
  obtain ⟨hlen, hstages⟩ := stages_kept hinv hm hx he hw.stages
  exact ⟨sameView_exec hm.view he, hlen, hstages, pointer_kept hm he hw.pointer, directive_kept hinv hm he hw.directive,
    requests_kept hm hx he hw.requests, grants_kept hm he hw.grants⟩

theorem MidCycle.withTrace (hm : MidCycle s m) (tr : List (Site × Nat)) : MidCycle s { m with trace := tr } :=
  ⟨hm.view, hm.stagesLength, hm.stages, hm.pointer, hm.directive, hm.requests, hm.grants⟩

/-! ## The slots, one after another -/

/-- The lane that a slot is granted to has an admissible Candidate, so the slot takes a tracked Request (R151). -/
theorem granted_tracked (hinv : Invariant s) (hm : MidCycle s m) {k w : Nat} (h : laneOf m k = some w) :
    Tracked m.cfg (m.stage w).c.toRequest := by
  have hcfg : m.cfg = s.cfg := hm.view.1
  have hidx : enqIdx m w = some k := by simpa using (leastBelow_eq_some.mp h).2.1
  rw [hcfg, sameView_stage hm.view]
  exact admissible_tracked hinv (hm.grants w (by simp [enqOk, hidx]))

/-- What holds when the slots below `k` have had their operations: those are kept, the others are untouched. -/
structure SlotsRun (s : State) (k : Nat) (m : State) : Prop where
  mid : MidCycle s m
  slotsLength : m.nxt.slots.length = s.cfg.n
  freeLength : m.wires.free.length = s.cfg.n
  todo : ∀ i, k ≤ i → m.nxt.slots.getD i Slot.reset = s.slot i ∧ m.wires.free.getD i false = false
  done : ∀ i, i < k → SlotKept s.cfg (s.slot i).occ (enqEn m i) (m.nxt.slots.getD i Slot.reset) (m.wires.free.getD i false)

theorem SlotsRun.withTrace {k : Nat} (h : SlotsRun s k m) (tr : List (Site × Nat)) : SlotsRun s k { m with trace := tr } :=
  ⟨h.mid.withTrace tr, h.slotsLength, h.freeLength, h.todo, h.done⟩

/-- Which slots are granted does not change while the slots perform their operations. -/
theorem enqEn_congr (hcfg : m'.cfg = m.cfg) (henq : m'.out.enq = m.out.enq) (i : Nat) : enqEn m' i = enqEn m i := by
  simp only [enqEn, laneOf, enqIdx, hcfg, henq]

/-- The operation of slot `k` takes its turn. -/
theorem slotsRun_exec {k : Nat} {i : Instr} (hinv : Invariant s) (h : SlotsRun s k m)
    (hd : decode m.cfg ⟨.ss, k⟩ (selector m ⟨.ss, k⟩) = .ok i) (he : exec i m = .next m') : SlotsRun s (k + 1) m' := by
  have hmid := midCycle_exec hinv h.mid hd he
  have hw := exec_decoded_writesOnly hd he
  have hcfg : m.cfg = s.cfg := h.mid.view.1
  have hen (j : Nat) : enqEn m' j = enqEn m j := enqEn_congr (hmid.view.1.trans hcfg.symm) (hw.grants nofun) j
  obtain ⟨hx, rfl⟩ := eq_tableOp_of_decode hd
  have hk : k < s.cfg.n := hcfg ▸ hx
  have hslot := sameView_slot h.mid.view k
  have ⟨_, _, _, _, hsound, htracked, _, _⟩ := hinv
  obtain ⟨f, freed, ⟨hf, hfree⟩, hkept⟩ := exec_slot (hslot ▸ hsound k hk)
    (by rw [hslot, hcfg]; exact htracked k hk) (fun w hl => granted_tracked hinv h.mid hl) he
  obtain ⟨hsl, hfr⟩ := h.todo k le_rfl
  have hself : m'.nxt.slots.getD k Slot.reset = f (s.slot k) := by
    rw [hf, getD_modify_self (by simpa [h.slotsLength] using hk), hsl]
  have hfself : m'.wires.free.getD k false = freed := by
    rw [hfree]
    cases freed
    · exact hfr
    · exact getD_set_self (by simpa [h.freeLength] using hk) ..
  have hrest (j : Nat) (hj : k ≠ j) : m'.nxt.slots.getD j Slot.reset = m.nxt.slots.getD j Slot.reset
      ∧ m'.wires.free.getD j false = m.wires.free.getD j false := by
    refine ⟨by rw [hf, getD_modify_ne _ hj], ?_⟩
    rw [hfree]
    cases freed
    · rfl
    · exact getD_set_ne _ hj ..
  refine ⟨hmid, by simpa [hf] using h.slotsLength, ?_, fun j hj => ?_, fun j hj => ?_⟩
  · rw [hfree, apply_ite List.length, List.length_set, ite_self, h.freeLength]
  · obtain ⟨h1, h2⟩ := hrest j (by omega)
    rw [h1, h2]
    exact h.todo j (by omega)
  · rw [hen]
    by_cases hjk : k = j
    · subst hjk
      rw [hself, hfself, ← hcfg, ← hslot]
      exact hkept
    · obtain ⟨h1, h2⟩ := hrest j hjk
      rw [h1, h2]
      exact h.done j (by omega)

theorem slotsRun_sites (hinv : Invariant s) {k : Nat} (h : SlotsRun s 0 m)
    (hr : runSites ((List.range k).map fun i => ⟨.ss, i⟩) m = .next m') : SlotsRun s k m' := by
  induction k generalizing m' with
  | zero =>
    cases hr
    exact h
  | succ k ih =>
    rw [List.range_succ, List.map_append, runSites_append_eq_next] at hr
    obtain ⟨p, hp, hlast⟩ := hr
    obtain ⟨q, hq, hnil⟩ := runSites_cons_eq_next.mp hlast
    cases hnil
    rcases runSite_eq_next.mp hq with ⟨hidle, -⟩ | ⟨-, i, hd, he⟩
    · cases hidle
    · exact slotsRun_exec (m := { p with trace := p.trace ++ [(⟨.ss, k⟩, selector p ⟨.ss, k⟩)] }) hinv
        ((ih hp).withTrace _) hd he

/-- The components before the slots leave every slot as it was. -/
theorem slotsRun_zero (hinv : Invariant s)
    (h : runSites (phaseOrder.dropLast.flatMap (sitesOf s.cfg)) (sample s) = .next m) : SlotsRun s 0 m := by
  have hmid : MidCycle s m :=
    runSites_keeps_decoded (fun _ tr hm => hm.withTrace tr) (fun _ _ _ _ _ hm hd he => midCycle_exec hinv hm hd he)
      (midCycle_sample hinv) h
  have hsame : m.nxt.slots = s.regs.slots ∧ m.wires.free = List.replicate s.cfg.n false := by
    refine runSites_keeps_decoded
      (P := fun m => m.nxt.slots = s.regs.slots ∧ m.wires.free = List.replicate s.cfg.n false)
      (fun _ _ hm => hm) (fun x hx p i p' hp hd he => ?_) ⟨rfl, rfl⟩ h
    have hw := exec_decoded_writesOnly hd he
    have hne := not_slot_of_mem_dropLast hx
    exact ⟨(hw.slots hne).trans hp.1, (hw.free hne).trans hp.2⟩
  obtain ⟨hslots, hfree⟩ := hsame
  obtain ⟨-, ⟨hlen, -, -⟩, -⟩ := hinv
  refine ⟨hmid, hslots ▸ hlen, by simp [hfree], fun i _ => ⟨by rw [hslots]; rfl, by simp [hfree]⟩, fun i hi => ?_⟩
  exact absurd hi (Nat.not_lt_zero i)

/-! ## The boundary -/

/-- A boundary after all slots have had their operations meets the invariant; its pool is exact because each slot is empty
exactly when its index is in the next pool. -/
theorem invariant_commit (hinv : Invariant s) (h : SlotsRun s s.cfg.n m) : Invariant (commit m) := by
  obtain ⟨hok, -, hpool, -, -, -, -, ⟨hages, -⟩⟩ := hinv
  obtain ⟨hcfg, -, hregs, hinp, -⟩ := h.mid.view
  simp only [sample_cfg, sample_regs, sample_inp] at hcfg hregs hinp
  simp only [Invariant, Shaped, PoolExact, AgesFit, State.slot, State.stage, commit_cfg, commit_regs, boundary, hcfg, hinp, hregs]
  refine ⟨hok, ⟨h.slotsLength, by simp [nextPool, hcfg], h.mid.stagesLength⟩, fun i hi => ?_, h.mid.pointer,
    fun i hi => (h.done i hi).sound, fun i hi => (h.done i hi).tracked, h.mid.stages, ?_, h.mid.directive⟩
  · rw [← (h.done i hi).pool, ← hpool i hi]
    simp [nextPool, hcfg, hregs, hi, List.getD_eq_getElem?_getD]
  · simp only [Bool.and_eq_true] at hages ⊢
    exact ⟨⟨nextInput_flush_age hok, hages.1.1⟩, nextInput_tok_age hok⟩

end

/-- Settles O31: the components before the slots keep what every point of a cycle has, each slot's operation keeps its slot,
and the boundary puts them together. -/
theorem stepKeepsInvariant : Obligations.StepKeepsInvariant := by
  intro s t hinv hstep
  obtain ⟨m, hrun, rfl⟩ := step_eq_next.mp hstep
  rw [schedule_eq_append, runSites_append_eq_next] at hrun
  obtain ⟨p, hpre, hslots⟩ := hrun
  exact invariant_commit hinv (slotsRun_sites hinv (slotsRun_zero hinv hpre) hslots)

end Sys2Proof.Machine
end

section
/-!
What a step leaves of the history, the inputs and the model's own fields (O33).
-/
namespace Sys2Proof.Machine

/-- Settles O33: the components leave the start-of-cycle view of the sampled state alone, and the boundary copies the
history out of it. -/
theorem historyAndToken : Obligations.HistoryAndToken := by
  intro s t hstep
  obtain ⟨m, hrun, rfl⟩ := step_eq_next.mp hstep
  obtain ⟨hcfg, ht, hregs, hinp, hscript, henv⟩ := runSites_view hrun
  simp [boundary, hcfg, ht, hregs, hinp, hscript, henv]

end Sys2Proof.Machine
end

section
/-!
The stops of operations that the block cannot perform (log 12): on a component it does not have (O22), and with nothing to
choose from (O23).
-/
namespace Sys2Proof.Machine

/-! ## Components the block does not have -/

/-- The guard that every operation on a slot, a lane or a port has: beyond the count, its stop. -/
theorem guard_of_missing {k n : Nat} {o : Host.Outcome State Fault Refusal} {f : Fault} (h : n ≤ k) :
    (if k < n then o else .fault f) = .fault f :=
  if_neg (Nat.not_lt.mpr h)

/-- Settles O22: each listed operation is guarded by the count of its components, and the delivery of a response by that of
the slots, of which the tag names one. -/
theorem missingComponentsStop : Obligations.MissingComponentsStop := by
  intro s a b c st cls
  refine ⟨fun i hi ss op hop => ?_, fun w hw op hop => ?_, fun j hj op hop => ?_, fun htag => guard_of_missing htag⟩
  · fin_cases hop <;> exact guard_of_missing hi
  · fin_cases hop <;> exact guard_of_missing hw
  · fin_cases hop <;> exact guard_of_missing hj

/-! ## Nothing to choose from -/

theorem onChoice_of_none {g : Option Nat} {t : Nat → State} (h : g = none) : onChoice g t = .fault .emptyChoice := by
  rw [h, onChoice]

theorem roundRobin_eq_none {n last : Nat} {r : Nat → Bool} (h : ∀ i, i < n → r i = false) : roundRobin n last r = none := by
  have hlater : (leastBelow n fun i => r i && decide (last < i)) = none :=
    leastBelow_eq_none.mpr fun i hi => by simp [h i hi]
  simp [roundRobin, hlater, leastBelow_eq_none.mpr h]

theorem length_drawOrder (k : Nat) (draw l : List Nat) : (drawOrder k draw l).length = min k l.length := by
  induction k generalizing draw l with
  | zero => simp [drawOrder]
  | succ k ih =>
    cases l with
    | nil => simp [drawOrder]
    | cons x xs =>
      have hidx : draw.headD 0 % (xs.length + 1) < (x :: xs).length := Nat.mod_lt _ (Nat.succ_pos _)
      simp only [drawOrder, List.length_cons, ih, List.length_eraseIdx_of_lt hidx]
      omega

theorem length_freeList (pool : List Bool) : (freeList pool).length = pool.count true := by
  have hpool : (List.range pool.length).map (fun i => pool.getD i false) = pool :=
    List.ext_getElem (by simp) fun i _ h => by simp [List.getD_eq_getElem?_getD, h]
  calc (freeList pool).length
      = ((List.range pool.length).map fun i => pool.getD i false).count true := by
        simp only [freeList, ← List.countP_eq_length_filter, List.count, List.countP_map]
        congr 1
        funext i
        simp
    _ = pool.count true := by rw [hpool]

/-- A pool has no more indices to pick than free ones (R195). -/
theorem pick_eq_none {draw : List Nat} {pool : List Bool} {k : Nat} (h : pool.count true ≤ k) : pick draw pool k = none := by
  simpa [pick, length_drawOrder, length_freeList] using h

/-- Settles O23: the set that each operation's rule chooses from is the one whose emptiness is the premise. -/
theorem emptyChoicesStop : Obligations.EmptyChoicesStop := by
  intro s a b c
  refine ⟨fun h op hop => ?_, fun h op hop => ?_, fun h op hop => ?_, fun j hj h op hop => ?_, fun h => ?_, fun h op hop => ?_,
    fun i hi h => ?_, fun w hw h => ?_⟩
  · fin_cases hop <;> exact onChoice_of_none (leastBelow_eq_none.mpr h)
  · fin_cases hop <;> exact onChoice_of_none (roundRobin_eq_none h)
  · fin_cases hop <;> exact onChoice_of_none (leastBelow_eq_none.mpr h)
  · fin_cases hop <;> exact (if_pos hj).trans (onChoice_of_none (leastBelow_eq_none.mpr h))
  · exact onChoice_of_none (leastBelow_eq_none.mpr h)
  · fin_cases hop <;> exact onChoice_of_none (leastBelow_eq_none.mpr h)
  · have hlane : laneOf s i = none := leastBelow_eq_none.mpr fun w hw => by simpa [enqIdx] using h w hw
    exact (if_pos hi).trans (onChoice_of_none hlane)
  · exact (if_pos hw).trans (onChoice_of_none (pick_eq_none h))

end Sys2Proof.Machine
end

section
/-!
The reset state (R52): what its registers hold (O1), and that they meet the invariant (O2).
-/
namespace Sys2Proof.Machine

@[simp] theorem resetOf_slot (c : Config) (i : Nat) : (State.resetOf c).slot i = Slot.reset :=
  getD_replicate_default c.n i Slot.reset

@[simp] theorem resetOf_stage (c : Config) (w : Nat) : (State.resetOf c).stage w = Stage.reset :=
  getD_replicate_default c.w w Stage.reset

theorem resetOf_pool_getD {c : Config} {i : Nat} (hi : i < c.n) : (State.resetOf c).regs.pool.getD i false = true :=
  List.getD_replicate _ hi

theorem shaped_resetOf (c : Config) : Shaped (State.resetOf c) :=
  ⟨List.length_replicate, List.length_replicate, List.length_replicate⟩

/-- Settles O1: the arrays of the reset state are copies of the reset slot, of a free index and of the empty stage. -/
theorem resetState : Obligations.ResetState := by
  intro c
  obtain ⟨hslots, hpool, hstages⟩ := shaped_resetOf c
  refine ⟨hslots, hpool, hstages, fun i hi => ?_, fun w _ => ?_, rfl, rfl, rfl, rfl, rfl, rfl, rfl⟩
  · rw [resetOf_slot]
    exact ⟨rfl, rfl, rfl, resetOf_pool_getD hi⟩
  · rw [resetOf_stage]
    rfl

theorem slotSound_reset : SlotSound Slot.reset := by decide

/-- Nothing is held after reset, so the invariant comes down to the arrays, the empty slots' indices in the pool, and the
ages of the history, which are zero. -/
theorem invariant_resetOf {c : Config} (h : c.ok = true) : Invariant (State.resetOf c) := by
  have hn : 0 < c.n := by
    simp only [Config.ok, Bool.and_eq_true, decide_eq_true_eq] at h
    omega
  obtain ⟨hage, -⟩ := hasToken_zero_of_ok h
  have hages : AgesFit (State.resetOf c) := by
    refine ⟨?_, nofun⟩
    show (hasToken c.ages 0 && hasToken c.ages 0 && hasToken c.ages 0) = true
    simp [hage]
  refine ⟨h, shaped_resetOf c, fun i hi => ?_, hn, fun i _ => ?_, fun i _ => ?_, fun w _ => ?_, hages⟩
  · rw [resetOf_slot]
    exact resetOf_pool_getD hi
  · rw [resetOf_slot]
    exact slotSound_reset
  · rw [resetOf_slot]
    exact nofun
  · rw [resetOf_stage]
    exact nofun

/-- Settles O2: the invariant and the marks do not look at the inputs to come. -/
theorem resetHasInvariant : Obligations.ResetHasInvariant :=
  ⟨fun _ _ _ hok => ⟨invariant_resetOf hok, rfl, rfl⟩, rfl, by decide⟩

end Sys2Proof.Machine
end

section
/-!
Every state of a run (O32): the invariant, and the count of the free and the occupied slots that an exact pool gives (R41).
-/
namespace Sys2Proof.Machine

/-- A property that every step keeps holds at every boundary of a run from a state that has it. -/
theorem runCycles_keeps {P : State → Prop} (hstep : ∀ s t, P s → step s = .next t → P t) {k : Nat} {s t : State}
    (hp : P s) (h : runCycles k s = some t) : P t := by
  induction k generalizing s with
  | zero =>
    cases h
    exact hp
  | succ k ih =>
    unfold runCycles at h
    split at h
    next u hu => exact ih (hstep s u hp hu) h
    all_goals cases h

theorem invariant_of_reachable {s : State} (h : Reachable s) : Invariant s := by
  obtain ⟨c, k, script, env, hok, hrun⟩ := h
  exact runCycles_keeps stepKeepsInvariant (resetHasInvariant.1 c script env hok).1 hrun

/-- A list of bits that are the complement of a property of their indices has as many ones as indices without it. -/
theorem count_add_countBelow {l : List Bool} {n : Nat} {p : Nat → Bool} (hlen : l.length = n)
    (h : ∀ i, i < n → l.getD i false = !p i) : l.count true + countBelow n p = n := by
  have hl : l = (List.range n).map fun i => !p i :=
    List.ext_getElem (by simpa using hlen) fun i hi _ => by simpa [List.getD_eq_getElem?_getD, hi] using h i (hlen ▸ hi)
  calc l.count true + countBelow n p
      = (List.range n).countP p + (List.range n).countP (fun i => !p i) := by
        rw [hl, List.count, List.countP_map, Nat.add_comm]
        congr 2
        funext i
        simp
    _ = n := by
        simpa using (List.length_eq_countP_add_countP p (l := List.range n)).symm

/-- The free and the occupied slots are `N` together (R41). -/
theorem free_add_occupied {s : State} (h : Invariant s) :
    s.regs.pool.count true + countBelow s.cfg.n (fun i => (s.slot i).occ) = s.cfg.n := by
  obtain ⟨-, ⟨-, hlen, -⟩, hpool, -⟩ := h
  exact count_add_countBelow hlen hpool

/-- Settles O32: a reached state has the invariant, whose pool is exact. -/
theorem reachableStatesAreSound : Obligations.ReachableStatesAreSound := by
  intro s hreach
  have hinv := invariant_of_reachable hreach
  have ⟨_, _, hpool, _, hsound, _⟩ := hinv
  exact ⟨hsound, fun i hi => by rw [hpool i hi, Bool.not_eq_true'], free_add_occupied hinv⟩

end Sys2Proof.Machine
end

section
/-!
The marks (R48, R138): which mark each operation sets, and, from it, when a run of components leaves a mark set (O34).
-/
namespace Sys2Proof.Machine

/-- A fault reason or a refusal reason (R48). -/
inductive Mark where
  | fault (r : FaultReason)
  | refusal (r : RefusalReason)

/-- Whether the state's marks hold the reason. -/
def State.marked (s : State) : Mark → Bool
  | .fault r => s.faultMark.has r
  | .refusal r => s.refused.has r

/-- The state with the reason, if there is one, added to its marks (R10). -/
def State.withMark (s : State) : Option Mark → State
  | none => s
  | some (.fault r) => s.raise r
  | some (.refusal r) => s.refuse r

/-- The mark that an operation sets: each reason of R316 and R317 has the rows that raise or refuse it. -/
def markOf : Instr → Option Mark
  | .slotResubmitFault _ _ _ _ _ => some (.fault .illegalResubmit)
  | .respStale => some (.fault .staleResponse)
  | .arbOrdMultiFault _ _ => some (.fault .ordMulti)
  | .wbOrdMultiFault _ _ => some (.fault .wbOrdMulti)
  | .rbTieFault _ _ _ => some (.fault .ageTie)
  | .slotInvariantFault _ _ => some (.fault .slotInvariant)
  | .subBad _ => some (.refusal .badClass)
  | .admBadClass _ _ _ _ => some (.refusal .badClass)
  | .szRsv _ => some (.refusal .badSize)
  | _ => none

/-- The tables whose operations set a mark. -/
def Mark.tables : Mark → List Table
  | .fault .illegalResubmit => [.ss]
  | .fault .staleResponse => [.rs]
  | .fault .ordMulti => [.ar]
  | .fault .wbOrdMulti => [.wo]
  | .fault .ageTie => [.rb]
  | .fault .slotInvariant => [.ss]
  | .refusal .badClass => [.sub, .adm]
  | .refusal .badSize => [.sz]

theorem table_of_markOf {c : Config} {i : Instr} {k : Mark} (h : markOf i = some k) : (encode c i).1.table ∈ k.tables := by
  unfold markOf at h
  split at h <;> cases h <;> simp [encode, Mark.tables]

theorem FaultMark.has_add (m : FaultMark) (r k : FaultReason) : (m.add r).has k = true ↔ m.has k = true ∨ r = k := by
  cases r <;> cases k <;> simp [FaultMark.add, FaultMark.has]

theorem RefusedMark.has_add (m : RefusedMark) (r k : RefusalReason) : (m.add r).has k = true ↔ m.has k = true ∨ r = k := by
  cases r <;> cases k <;> simp [RefusedMark.add, RefusedMark.has]

theorem marked_withMark (s : State) (o : Option Mark) (k : Mark) :
    (s.withMark o).marked k = true ↔ s.marked k = true ∨ o = some k := by
  cases o with
  | none => simp [State.withMark]
  | some q => cases q <;> cases k <;> simp [State.withMark, State.marked, FaultMark.has_add, RefusedMark.has_add]

/-- The two states hold the same marks. -/
abbrev SameMarks (s s' : State) : Prop := s'.faultMark = s.faultMark ∧ s'.refused = s.refused

theorem SameMarks.marked_eq {s s' : State} (h : SameMarks s s') (k : Mark) : s'.marked k = s.marked k := by
  obtain ⟨hf, hr⟩ := h
  cases k <;> simp [State.marked, hf, hr]

theorem handoff_sameMarks (s : State) (g : Nat) (r : Bool) : SameMarks s (s.handoff g r) := by
  cases r <;> simp [SameMarks, State.handoff]

theorem drainOrd_sameMarks (s : State) (o : Nat) (r : Bool) : SameMarks s (s.drainOrd o r) := by
  cases r <;> simp [SameMarks, State.drainOrd]

theorem drainUn_sameMarks (s : State) (j u : Nat) (r : Bool) : SameMarks s (s.drainUn j u r) := by
  cases r <;> simp [SameMarks, State.drainUn]

/-- Every operation sets its mark, if it has one, and no other. -/
theorem exec_sameMarks {i : Instr} {s s' : State} (h : exec i s = .next s') : SameMarks (s.withMark (markOf i)) s' := by
  cases i with
  | slotResubmitFault | slotEmpty | idleCancel | idleIssue | idleWait | reqCancel | reqFire | reqStall | respDiscardNow
  | respDiscardPending | respCapture | respMarkCancel | respWait | wbCancel | wbFire | wbHold | slotInvariantFault
  | respDeliver | szLb | szLh | szLw | szLd | szLbu | szLhu | szLwu | szRsv | beRead =>
    obtain ⟨-, rfl⟩ := onSlot_eq_next.mp h
    exact ⟨rfl, rfl⟩
  | subBad | subCapture | subNone | admNone | admBadClass | admFlushed | admExc | admReplay | admUntracked | admEnqOrd
  | admEnqUnord | allocReject | allocNone =>
    obtain ⟨-, rfl⟩ := onLane_eq_next.mp h
    exact ⟨rfl, rfl⟩
  | wbUnNone =>
    obtain ⟨-, rfl⟩ := onPort_eq_next.mp h
    exact ⟨rfl, rfl⟩
  | arbIdle | respStale | respNone | wbOrdNone | faultNone | rbNone | rbSuppress =>
    cases h
    exact ⟨rfl, rfl⟩
  | faultReport | rbArm =>
    obtain ⟨g, -, rfl⟩ := onChoice_eq_next.mp h
    exact ⟨rfl, rfl⟩
  | slotEnqWrite | allocGrant =>
    simp only [exec, execSlotEnqWrite, execAllocGrant] at h
    split at h
    · obtain ⟨g, -, rfl⟩ := onChoice_eq_next.mp h
      exact ⟨rfl, rfl⟩
    · cases h
  | arbOrdMultiFault | arbOrdFire | arbOrdStall | arbUnordStall =>
    obtain ⟨g, -, rfl⟩ := onChoice_eq_next.mp h
    exact handoff_sameMarks _ g _
  | arbUnordFire =>
    obtain ⟨g, -, rfl⟩ := onChoice_eq_next.mp h
    exact handoff_sameMarks s g true
  | wbOrdMultiFault | wbOrdFire | wbOrdHold =>
    obtain ⟨o, -, rfl⟩ := onChoice_eq_next.mp h
    exact drainOrd_sameMarks _ o _
  | wbUnFire | wbUnHold =>
    simp only [exec, execWbUnFire, execWbUnHold] at h
    split at h
    · obtain ⟨u, -, rfl⟩ := onChoice_eq_next.mp h
      exact drainUn_sameMarks s _ u _
    · cases h
  | rbTieFault =>
    obtain ⟨e, -, rfl⟩ := onChoice_eq_next.mp h
    dsimp only
    split <;> exact ⟨rfl, rfl⟩

theorem exec_marked {i : Instr} {s s' : State} (h : exec i s = .next s') (k : Mark) :
    s'.marked k = true ↔ s.marked k = true ∨ markOf i = some k := by
  rw [(exec_sameMarks h).marked_eq, marked_withMark]

/-- A component leaves a mark set that was set before, or that the operation it performs sets. -/
theorem runSite_marked {x : Site} {s s' : State} (h : runSite x s = .next s') (k : Mark) :
    s'.marked k = true ↔ s.marked k = true ∨ ∃ i, Performs s x i ∧ markOf i = some k := by
  rcases runSite_eq_next.mp h with ⟨hidle, rfl⟩ | ⟨hactive, i, hd, he⟩
  · simp [Performs, hidle]
  · rw [exec_marked he]
    refine or_congr_right ⟨fun hk => ⟨i, ⟨hactive, hd⟩, hk⟩, ?_⟩
    rintro ⟨j, ⟨-, hj⟩, hk⟩
    cases hd.symm.trans hj
    exact hk

/-- Somewhere among the components `xs`, run from `s`, one comes to perform an operation that sets the mark. -/
def MarkSet (xs : List Site) (s : State) (k : Mark) : Prop :=
  ∃ pre x post m i, xs = pre ++ x :: post ∧ runSites pre s = .next m ∧ Performs m x i ∧ markOf i = some k

theorem not_markSet_nil (s : State) (k : Mark) : ¬MarkSet [] s k := by
  rintro ⟨pre, x, post, m, i, hsplit, -⟩
  simp at hsplit

theorem markSet_cons {x : Site} {xs : List Site} {s m : State} {k : Mark} (h : runSite x s = .next m) :
    MarkSet (x :: xs) s k ↔ (∃ i, Performs s x i ∧ markOf i = some k) ∨ MarkSet xs m k := by
  constructor
  · rintro ⟨pre, y, post, p, i, hsplit, hpre, hi⟩
    cases pre with
    | nil =>
      cases hsplit
      cases hpre
      exact .inl ⟨i, hi⟩
    | cons z pre =>
      obtain ⟨rfl, rfl⟩ := List.cons.inj hsplit
      obtain ⟨q, hq, hrest⟩ := runSites_cons_eq_next.mp hpre
      cases h.symm.trans hq
      exact .inr ⟨pre, y, post, p, i, rfl, hrest, hi⟩
  · rintro (⟨i, hi⟩ | ⟨pre, y, post, p, i, rfl, hpre, hi⟩)
    · exact ⟨[], x, xs, s, i, rfl, rfl, hi⟩
    · exact ⟨x :: pre, y, post, p, i, rfl, runSites_cons_eq_next.mpr ⟨m, h, hpre⟩, hi⟩

/-- A mark is set after a run of components exactly when it was before or some operation of the run sets it. -/
theorem runSites_marked {xs : List Site} {s s' : State} (h : runSites xs s = .next s') (k : Mark) :
    s'.marked k = true ↔ s.marked k = true ∨ MarkSet xs s k := by
  induction xs generalizing s with
  | nil =>
    cases h
    simp [not_markSet_nil]
  | cons x xs ih =>
    obtain ⟨m, hx, hxs⟩ := runSites_cons_eq_next.mp h
    rw [ih hxs, runSite_marked hx, markSet_cons hx, or_assoc]

/-- When a step leaves a mark set. -/
theorem step_marked {s t : State} (h : step s = .next t) (k : Mark) :
    t.marked k = true ↔ s.marked k = true ∨ MarkSet (schedule s.cfg) (sample s) k := by
  obtain ⟨m, hrun, rfl⟩ := step_eq_next.mp h
  exact runSites_marked hrun k

/-- Settles O34: a mark that was set before the step is set after it. -/
theorem marksOnlyGrow : Obligations.MarksOnlyGrow :=
  fun _ _ hstep => ⟨fun r hr => (step_marked hstep (.fault r)).mpr (.inl hr),
    fun r hr => (step_marked hstep (.refusal r)).mpr (.inl hr)⟩

end Sys2Proof.Machine
end

section
/-!
The component whose turn it is in a cycle, and the stage registers, which their lanes' submissions write and nothing else
(O37).
-/
namespace Sys2Proof.Machine

/-! ## A component's turn -/

theorem mem_sitesOf {c : Config} {x : Site} {t : Table} : x ∈ sitesOf c t ↔ x.table = t ∧ x.idx < tableCount c t := by
  obtain ⟨u, k⟩ := x
  simp [sitesOf, eq_comm, and_comm]

theorem mem_schedule {c : Config} {x : Site} : x ∈ schedule c ↔ x.idx < tableCount c x.table := by
  have hmem (t : Table) : t ∈ phaseOrder := by cases t <;> decide
  simp [schedule, mem_sitesOf, hmem]

/-- Every component has one turn in a cycle (R98, R135). -/
theorem nodup_schedule (c : Config) : (schedule c).Nodup := by
  refine List.nodup_flatMap.mpr ⟨fun t _ => ?_, ?_⟩
  · exact List.nodup_range.map fun a b hab => congrArg Site.idx hab
  · refine List.Pairwise.imp (fun {t u} htu x ht hu => htu ?_) (show phaseOrder.Nodup by decide)
    exact (mem_sitesOf.mp ht).1.symm.trans (mem_sitesOf.mp hu).1

/-- The turn of a component that the block has: the components before it, itself, and those after it, none of them it. -/
theorem exists_turn {s m : State} {x : Site} (hx : x.idx < tableCount s.cfg x.table)
    (h : runSites (schedule s.cfg) (sample s) = .next m) :
    ∃ pre post p q, schedule s.cfg = pre ++ x :: post ∧ x ∉ pre ∧ x ∉ post ∧
      runSites pre (sample s) = .next p ∧ runSite x p = .next q ∧ runSites post q = .next m := by
  obtain ⟨pre, post, hsplit⟩ := List.append_of_mem (mem_schedule.mpr hx)
  have hnodup := hsplit ▸ nodup_schedule s.cfg
  rw [hsplit, runSites_append_eq_next] at h
  obtain ⟨p, hpre, hrest⟩ := h
  obtain ⟨q, hq, hpost⟩ := runSites_cons_eq_next.mp hrest
  obtain ⟨hfirst, hlast⟩ : x ∉ pre ∧ x ∉ post := by
    simp only [List.nodup_append, List.nodup_cons, List.mem_cons] at hnodup
    exact ⟨fun hmem => hnodup.2.2 x hmem x (.inl rfl) rfl, hnodup.2.1.1⟩
  exact ⟨pre, post, p, q, hsplit, hfirst, hlast, hpre, hq, hpost⟩

/-- The state in which a component's operation runs: its selector has entered the trace (R113). -/
def State.noting (s : State) (x : Site) : State := { s with trace := s.trace ++ [(x, selector s x)] }

/-- A component that is active at its turn performs the operation that its table's decoder picks. -/
theorem exec_of_active {x : Site} {s s' : State} (hactive : active s x = true) (h : runSite x s = .next s') :
    Performs s x (tableOp s.cfg x (selector s x)) ∧
      exec (tableOp (s.noting x).cfg x (selector (s.noting x) x)) (s.noting x) = .next s' := by
  rcases runSite_eq_next.mp h with ⟨hidle, -⟩ | ⟨-, i, hd, he⟩
  · simp [hactive] at hidle
  · obtain ⟨-, rfl⟩ := eq_tableOp_of_decode hd
    exact ⟨⟨hactive, hd⟩, he⟩

/-! ## The stage registers -/

/-- What a submission makes of its lane's stage register (R211 to R213). -/
def Submission.intoStage (sub : Submission) (r : Stage) : Stage :=
  if sub.valid then if sub.cand.cls = .rsvd then { r with v := false } else { v := true, c := sub.cand }
  else { r with v := false }

theorem exec_submit_eq {s s' : State} {w : Nat} (h : exec (tableOp s.cfg ⟨.sub, w⟩ (selector s ⟨.sub, w⟩)) s = .next s') :
    s'.nxt.s2 = s.nxt.s2.modify w (s.submission w).intoStage := by
  rw [tableOp_submit] at h
  unfold Submission.intoStage
  split_ifs at h
  all_goals
    obtain ⟨-, rfl⟩ := onLane_eq_next.mp h
    simp_all

/-- Only the submission of its own lane writes a stage register. -/
theorem stage_kept {w : Nat} {xs : List Site} {s s' : State} (hxs : ⟨.sub, w⟩ ∉ xs) (h : runSites xs s = .next s') :
    s'.nxt.s2.length = s.nxt.s2.length ∧ s'.nxt.s2.getD w Stage.reset = s.nxt.s2.getD w Stage.reset := by
  refine runSites_keeps_decoded
    (P := fun m => m.nxt.s2.length = s.nxt.s2.length ∧ m.nxt.s2.getD w Stage.reset = s.nxt.s2.getD w Stage.reset)
    (fun _ _ hm => hm) (fun x hx m i m' hm hd he => ?_) ⟨rfl, rfl⟩ h
  by_cases ht : x.table = .sub
  · obtain ⟨t, k⟩ := x
    subst ht
    obtain ⟨-, rfl⟩ := eq_tableOp_of_decode hd
    have hkw : k ≠ w := by
      rintro rfl
      exact hxs hx
    rw [exec_submit_eq he, List.length_modify, getD_modify_ne _ hkw]
    exact hm
  · rw [(exec_decoded_writesOnly hd he).stages ht]
    exact hm

/-- A stage register at the boundary is what its lane's submission makes of it. -/
theorem stage_after_step {s t : State} {w : Nat} (hlen : s.regs.s2.length = s.cfg.w) (hw : w < s.cfg.w)
    (h : step s = .next t) : t.stage w = ((sample s).submission w).intoStage (s.stage w) := by
  obtain ⟨m, hrun, rfl⟩ := step_eq_next.mp h
  obtain ⟨pre, post, p, q, -, hpre, hpost, hp, hq, hm⟩ := exists_turn (x := ⟨.sub, w⟩) hw hrun
  obtain ⟨hlenp, hold⟩ := stage_kept hpre hp
  have hwlen : w < p.nxt.s2.length := by
    rw [hlenp]
    exact hlen ▸ hw
  have hwrite := exec_submit_eq (exec_of_active rfl hq).2
  calc (commit m).stage w = q.nxt.s2.getD w Stage.reset := (stage_kept hpost hm).2
    _ = (p.submission w).intoStage (p.nxt.s2.getD w Stage.reset) := by rw [hwrite]; exact getD_modify_self hwlen ..
    _ = ((sample s).submission w).intoStage (s.stage w) := by
      rw [hold, sameView_submission (runSites_view hp)]
      rfl

/-- Settles O37: the sampled submission is cut at its port (log 3), and its lane's stage register is written by it alone. -/
theorem stageAfterCycle : Obligations.StageAfterCycle := by
  intro s t hinv hstep w hw
  obtain ⟨hok, ⟨-, -, hlen⟩, -⟩ := hinv
  exact ⟨(sample_submission_fits hok hw).1, stage_after_step hlen hw hstep⟩

end Sys2Proof.Machine
end

section
/-!
The marks that no step from a state of the invariant sets, and the one that a submission sets (O55): a grant is of a free
index, so it goes to an empty slot, and a sound slot's signals match a row other than that of a breach.
-/
namespace Sys2Proof.Machine

/-! ## Grants are of free indices -/

theorem drawOrder_subset (k : Nat) (draw l : List Nat) : drawOrder k draw l ⊆ l := by
  induction k generalizing draw l with
  | zero => simp [drawOrder]
  | succ k ih =>
    cases l with
    | nil => simp [drawOrder]
    | cons x xs =>
      have hidx : draw.headD 0 % (xs.length + 1) < (x :: xs).length := Nat.mod_lt _ (Nat.succ_pos _)
      refine List.cons_subset.mpr ⟨?_, fun i hi => List.mem_of_mem_eraseIdx (ih _ _ hi)⟩
      rw [List.getD_eq_getElem _ _ hidx]
      exact List.getElem_mem hidx

/-- An index that a draw gives is free (R195). -/
theorem free_of_pick {draw : List Nat} {pool : List Bool} {k i : Nat} (h : pick draw pool k = some i) :
    pool.getD i false = true :=
  (List.mem_filter.mp (drawOrder_subset _ _ _ (List.mem_of_getElem? h))).2

/-- What allocation drives for its lane: the drawn index if the lane requests one and there is one, else a rejection if it
requests one (R192, R193, R197). -/
theorem exec_alloc_eq {s s' : State} {w : Nat} (h : exec (tableOp s.cfg ⟨.al, w⟩ (selector s ⟨.al, w⟩)) s = .next s') :
    s' = s.driveEnq w (if enqReq s w && canAlloc s w then pick s.inp.draw s.regs.pool (allocOff s w) else none)
      (enqReq s w && !canAlloc s w) := by
  rw [tableOp_alloc] at h
  split_ifs at h with hreq hcan
  · obtain ⟨-, rfl⟩ := onLane_eq_next.mp h
    simp [hreq]
  · simp only [exec, execAllocGrant] at h
    split at h
    · obtain ⟨g, hg, rfl⟩ := onChoice_eq_next.mp h
      simp [hreq, hcan, hg]
    · cases h
  · obtain ⟨-, rfl⟩ := onLane_eq_next.mp h
    simp [hreq, hcan]

/-- Every index granted so far in the cycle was free at its start. -/
abbrev GrantsFree (m : State) : Prop := ∀ w i, enqIdx m w = some i → m.regs.pool.getD i false = true

theorem grantsFree_exec {m m' : State} {x : Site} {i : Instr} (hm : GrantsFree m)
    (hd : decode m.cfg x (selector m x) = .ok i) (he : exec i m = .next m') : GrantsFree m' := by
  intro w k hk
  obtain ⟨-, -, hregs, -⟩ := exec_snapshot he
  rw [hregs]
  by_cases ht : x.table = .al
  · obtain ⟨t, l⟩ := x
    subst ht
    obtain ⟨-, rfl⟩ := eq_tableOp_of_decode hd
    rw [exec_alloc_eq he, enqIdx, State.driveEnq_out] at hk
    rcases getD_set_cases m.out.enq l w _ none with ⟨-, hnew⟩ | hold
    · rw [hnew] at hk
      split at hk
      · exact free_of_pick hk
      · cases hk
    · rw [hold] at hk
      exact hm w k hk
  · rw [enqIdx, (exec_decoded_writesOnly hd he).grants ht] at hk
    exact hm w k hk

theorem grantsFree_of_run {s m : State} {xs : List Site} (h : runSites xs (sample s) = .next m) : GrantsFree m := by
  refine runSites_keeps_decoded (fun _ _ hm => hm) (fun _ _ _ _ _ hm hd he => grantsFree_exec hm hd he) ?_ h
  intro w i hi
  simp [enqIdx, outputBase] at hi

/-- Only an empty slot is granted (R41, R195). -/
theorem empty_of_enqEn {s m : State} {xs : List Site} {k : Nat} (hinv : Invariant s) (hk : k < s.cfg.n)
    (h : runSites xs (sample s) = .next m) (hen : enqEn m k = true) : (s.slot k).occ = false := by
  obtain ⟨-, -, hpool, -⟩ := hinv
  obtain ⟨w, hw⟩ := Option.isSome_iff_exists.mp hen
  have hidx : enqIdx m w = some k := by simpa using (leastBelow_eq_some.mp hw).2.1
  obtain ⟨-, -, hregs, -⟩ := runSites_view h
  have hfree := grantsFree_of_run h w k hidx
  rw [hregs, sample_regs, hpool k hk] at hfree
  simpa using hfree

/-! ## Which operations set the marks -/

theorem idle_of_empty {sl : Slot} (hs : SlotSound sl) (hocc : sl.occ = false) : sl.st = .idle := by
  obtain ⟨hbusy, -, -⟩ := hs
  by_contra hst
  simp [hbusy hst] at hocc

theorem not_pending_of_not_resp {sl : Slot} (hs : SlotSound sl) (hst : sl.st ≠ .resp) : sl.cpend = false := by
  obtain ⟨-, hpend, -⟩ := hs
  simpa using mt hpend hst

/-- A sound slot's signals match a row that sets no mark, if the slot is granted and flushed only as R150 and R133 allow. -/
theorem markOf_slotOp {k : Nat} {sl : Slot} {cancel ev en : Bool} (hs : SlotSound sl)
    (hcancel : sl.occ = false → cancel = false) (hen : en = true → sl.occ = false) :
    markOf (slotOp k sl.st sl.occ cancel sl.cpend ev en) = none := by
  cases hocc : sl.occ with
  | false =>
    have hst := idle_of_empty hs hocc
    have hpend := not_pending_of_not_resp hs (by simp [hst])
    cases en <;> simp [slotOp, hst, hcancel hocc, hpend, markOf]
  | true =>
    obtain rfl : en = false := by simpa [hocc] using hen
    cases hst : sl.st with
    | resp =>
      simp only [slotOp]
      split_ifs <;> rfl
    | idle | req | wb =>
      simp only [slotOp, not_pending_of_not_resp hs (by simp [hst]), Bool.false_eq_true, if_false]
      split_ifs <;> rfl

theorem markOf_admissionOp {w : Nat} {v fh exc replay : Bool} {cls : Cls} :
    markOf (admissionOp w v fh exc replay cls) = some (.refusal .badClass) ↔ v = true ∧ cls = .rsvd := by
  unfold admissionOp
  split_ifs <;> simp_all [markOf]

theorem markOf_submit {s : State} {w : Nat} :
    markOf (tableOp s.cfg ⟨.sub, w⟩ (selector s ⟨.sub, w⟩)) = some (.refusal .badClass) ↔
      (s.submission w).valid = true ∧ (s.submission w).cand.cls = .rsvd := by
  rw [tableOp_submit]
  split_ifs <;> simp_all [markOf]

/-- What a component does that sets a mark: it has one of the mark's tables, the block has it, and its table's decoder picks
the operation. -/
theorem eq_tableOp_of_performs {m : State} {x : Site} {i : Instr} {k : Mark} (h : Performs m x i) (hk : markOf i = some k) :
    x.table ∈ k.tables ∧ x.idx < tableCount m.cfg x.table ∧ i = tableOp m.cfg x (selector m x) := by
  obtain ⟨-, hd⟩ := h
  exact ⟨encode_table_of_decode hd ▸ table_of_markOf hk, eq_tableOp_of_decode hd⟩

/-- No slot of a state of the invariant sets a mark in the cycle. -/
theorem not_markSet_of_slot {s : State} {k : Mark} (hinv : Invariant s) (hk : k.tables = [.ss]) :
    ¬MarkSet (schedule s.cfg) (sample s) k := by
  rintro ⟨pre, ⟨t, j⟩, post, m, i, -, hrun, hperf, hmark⟩
  obtain ⟨ht, hj, rfl⟩ := eq_tableOp_of_performs hperf hmark
  obtain rfl : t = .ss := by simpa [hk] using ht
  have hview := runSites_view hrun
  have hcfg : m.cfg = s.cfg := hview.1
  have hjn : j < s.cfg.n := hcfg ▸ hj
  have ⟨_, _, _, _, hsound, _⟩ := hinv
  have hslot := sameView_slot hview j
  have hnone := markOf_slotOp (k := j) (sl := m.slot j) (cancel := cancelNow m j) (ev := progress m j) (en := enqEn m j)
    (hslot ▸ hsound j hjn) (fun ho => by simp [cancelNow, ho]) (fun hen => hslot ▸ empty_of_enqEn hinv hjn hrun hen)
  rw [tableOp_slot, hnone] at hmark
  cases hmark

/-- In a cycle from a state of the invariant it is a submission of the reserved class, and nothing else, that sets
`BadClass` (R213, R216). -/
theorem markSet_badClass {s t : State} (hinv : Invariant s) (hstep : step s = .next t) :
    MarkSet (schedule s.cfg) (sample s) (.refusal .badClass) ↔
      ∃ w, w < s.cfg.w ∧ ((sample s).submission w).valid = true ∧ ((sample s).submission w).cand.cls = .rsvd := by
  constructor
  · rintro ⟨pre, ⟨u, w⟩, post, m, i, -, hrun, hperf, hmark⟩
    obtain ⟨hu, hw, rfl⟩ := eq_tableOp_of_performs hperf hmark
    have hview := runSites_view hrun
    have hcfg : m.cfg = s.cfg := hview.1
    obtain rfl | rfl : u = .sub ∨ u = .adm := by simpa [Mark.tables] using hu
    · rw [markOf_submit, sameView_submission hview] at hmark
      exact ⟨w, hcfg ▸ hw, hmark⟩
    · rw [tableOp_admission, markOf_admissionOp, sameView_stage hview] at hmark
      obtain ⟨hv, hcls⟩ := hmark
      obtain ⟨-, -, -, -, -, -, hstages, -⟩ := hinv
      exact absurd hcls (hstages w (hcfg ▸ hw) hv).1
  · rintro ⟨w, hw, hsub⟩
    obtain ⟨m, hrun, -⟩ := step_eq_next.mp hstep
    obtain ⟨pre, post, p, q, hsplit, -, -, hp, hq, -⟩ := exists_turn (x := ⟨.sub, w⟩) hw hrun
    refine ⟨pre, ⟨.sub, w⟩, post, p, _, hsplit, hp, (exec_of_active rfl hq).1, markOf_submit.mpr ?_⟩
    rwa [sameView_submission (runSites_view hp)]

theorem marked_eq_of_not_markSet {s t : State} {k : Mark} (hstep : step s = .next t)
    (h : ¬MarkSet (schedule s.cfg) (sample s) k) : t.marked k = s.marked k := by
  rw [Bool.eq_iff_iff, step_marked hstep, or_iff_left h]

/-- Settles O55: the two breach marks are the slots' alone, which set none; `BadClass` is the submissions'. -/
theorem unreachableFaults : Obligations.UnreachableFaults := by
  intro s t hinv hstep
  have hresubmit := marked_eq_of_not_markSet hstep (not_markSet_of_slot (k := .fault .illegalResubmit) hinv rfl)
  have hinvariant := marked_eq_of_not_markSet hstep (not_markSet_of_slot (k := .fault .slotInvariant) hinv rfl)
  have hclass := step_marked hstep (.refusal .badClass)
  rw [markSet_badClass hinv hstep] at hclass
  exact ⟨hresubmit, hinvariant, hclass⟩

end Sys2Proof.Machine
end

section
/-!
The layouts of the selectors (R99 to R108): a selector of a table's width is the word of its own fields, and a word of
signals fits the width; and, for the tables that follow the allocator's, the operation that given signals pick.
-/
namespace Sys2Proof.Machine

/-! ## Fields as numbers -/

theorem field_eq (w lo len : Nat) : field w lo len = w / 2 ^ lo % 2 ^ len := by
  rw [field, Nat.shiftRight_eq_div_pow]

theorem field_lt (w lo len : Nat) : field w lo len < 2 ^ len := Nat.mod_lt _ (Nat.two_pow_pos len)

theorem bitNat_testBit (w k : Nat) : bitNat (w.testBit k) = w / 2 ^ k % 2 := by
  rw [bitNat, Nat.testBit_eq_decide_div_mod_eq]
  split <;> simp_all

theorem bitNat_lt (b : Bool) : bitNat b < 2 := by cases b <;> decide

theorem slotStateCode_lt (st : SlotState) : slotStateCode st < 4 := by cases st <;> decide

theorem clsCode_lt (cls : Cls) : clsCode cls < 4 := by cases cls <;> decide

theorem slotStateCode_slotStateOf {k : Nat} (h : k < 4) : slotStateCode (slotStateOf k) = k := by
  interval_cases k <;> rfl

theorem clsCode_clsOf {k : Nat} (h : k < 4) : clsCode (clsOf k) = k := by
  interval_cases k <;> rfl

/-! ## A selector is the word of its fields -/

theorem ssWord_fields {w : Nat} (h : w < 2 ^ 7) :
    ssWord (slotStateOf (field w 5 2)) (w.testBit 4) (w.testBit 3) (w.testBit 2) (w.testBit 1) (w.testBit 0) = w := by
  rw [ssWord, slotStateCode_slotStateOf (field_lt w 5 2), field_eq]
  simp only [bitNat_testBit]
  omega

theorem subWord_fields {w : Nat} (h : w < 2 ^ 3) : subWord (w.testBit 2) (clsOf (field w 0 2)) = w := by
  rw [subWord, clsCode_clsOf (field_lt w 0 2), field_eq, bitNat_testBit]
  omega

theorem admWord_fields {w : Nat} (h : w < 2 ^ 6) :
    admWord (w.testBit 5) (w.testBit 4) (w.testBit 3) (w.testBit 2) (clsOf (field w 0 2)) = w := by
  rw [admWord, clsCode_clsOf (field_lt w 0 2), field_eq]
  simp only [bitNat_testBit]
  omega

theorem alWord_fields {w : Nat} (h : w < 2 ^ 2) : alWord (w.testBit 1) (w.testBit 0) = w := by
  simp only [alWord, bitNat_testBit]
  omega

theorem arWord_fields {w : Nat} (h : w < 2 ^ 4) :
    arWord (w.testBit 3) (w.testBit 2) (w.testBit 1) (w.testBit 0) = w := by
  simp only [arWord, bitNat_testBit]
  omega

theorem rsWord_fields {w : Nat} (h : w < 2 ^ 2) : rsWord (w.testBit 1) (w.testBit 0) = w := by
  simp only [rsWord, bitNat_testBit]
  omega

theorem woWord_fields {w : Nat} (h : w < 2 ^ 3) : woWord (w.testBit 2) (w.testBit 1) (w.testBit 0) = w := by
  simp only [woWord, bitNat_testBit]
  omega

theorem wuWord_fields {w : Nat} (h : w < 2 ^ 2) : wuWord (w.testBit 1) (w.testBit 0) = w := by
  simp only [wuWord, bitNat_testBit]
  omega

theorem rbWord_fields {w : Nat} (h : w < 2 ^ 5) :
    rbWord (w.testBit 4) (w.testBit 3) (w.testBit 2) (w.testBit 1) (w.testBit 0) = w := by
  simp only [rbWord, bitNat_testBit]
  omega

/-! ## A word of signals fits its table's width -/

theorem ssWord_lt (st : SlotState) (occ cancel cpend ev en : Bool) : ssWord st occ cancel cpend ev en < 2 ^ 7 := by
  grind [ssWord, slotStateCode_lt, bitNat_lt]

theorem subWord_lt (valid : Bool) (cls : Cls) : subWord valid cls < 2 ^ 3 := by
  grind [subWord, clsCode_lt, bitNat_lt]

theorem admWord_lt (v fh exc replay : Bool) (cls : Cls) : admWord v fh exc replay cls < 2 ^ 6 := by
  grind [admWord, clsCode_lt, bitNat_lt]

theorem alWord_lt (req can : Bool) : alWord req can < 2 ^ 2 := by
  grind [alWord, bitNat_lt]

theorem arWord_lt (ord un ready multi : Bool) : arWord ord un ready multi < 2 ^ 4 := by
  grind [arWord, bitNat_lt]

theorem rsWord_lt (valid awaiting : Bool) : rsWord valid awaiting < 2 ^ 2 := by
  grind [rsWord, bitNat_lt]

theorem woWord_lt (multi any ready : Bool) : woWord multi any ready < 2 ^ 3 := by
  grind [woWord, bitNat_lt]

theorem wuWord_lt (any ready : Bool) : wuWord any ready < 2 ^ 2 := by
  grind [wuWord, bitNat_lt]

theorem rbWord_lt (any tie now d1 d2 : Bool) : rbWord any tie now d1 d2 < 2 ^ 5 := by
  grind [rbWord, bitNat_lt]

/-! ## The operation that given signals pick -/

/-- The arbiter serves an ordered requester before an unordered one (R103). -/
theorem decodeArbiter_arWord (c : Config) (ord un ready multi : Bool) :
    decodeArbiter c (arWord ord un ready multi) =
      if ord then
        if multi then .arbOrdMultiFault un ready else if ready then .arbOrdFire un else .arbOrdStall un
      else if un then if ready then .arbUnordFire multi else .arbUnordStall multi
      else .arbIdle ready multi := by
  cases ord <;> cases un <;> cases ready <;> cases multi <;> rfl

theorem decodeResponse_rsWord (c : Config) (valid awaiting : Bool) :
    decodeResponse c (rsWord valid awaiting) =
      if valid then if awaiting then .respDeliver else .respStale else .respNone awaiting := by
  cases valid <;> cases awaiting <;> rfl

theorem decodeWbOrd_woWord (c : Config) (multi any ready : Bool) :
    decodeWbOrd c (woWord multi any ready) =
      if multi then .wbOrdMultiFault any ready
      else if any then if ready then .wbOrdFire else .wbOrdHold else .wbOrdNone ready := by
  cases multi <;> cases any <;> cases ready <;> rfl

theorem decodeWbUnord_wuWord (c : Config) (j : Nat) (any ready : Bool) :
    decodeWbUnord c j (wuWord any ready) =
      if any then if ready then .wbUnFire j else .wbUnHold j else .wbUnNone j ready := by
  cases any <;> cases ready <;> rfl

theorem decodeRollback_rbWord (c : Config) (any tie now d1 d2 : Bool) :
    decodeRollback c (rbWord any tie now d1 d2) =
      if any then
        if tie then .rbTieFault now d1 d2 else if now || d1 || d2 then .rbSuppress now d1 d2 else .rbArm
      else .rbNone tie now d1 d2 := by
  cases any <;> cases tie <;> cases now <;> cases d1 <;> cases d2 <;> rfl

end Sys2Proof.Machine
end

section
/-!
The rows of the tables (R98): every selector of a table but the command's matches one of its rows, and the operation that
the table's decoder picks is that of the first one (O27).
-/
namespace Sys2Proof.Machine

/-- What decodes: a selector of its table's width, for a component that the block has; in the command field only the read
command does (R94, R98). It decodes to what its table's decoder picks. -/
theorem decode_eq_ok {c : Config} {x : Site} {w : Nat} {i : Instr} :
    decode c x w = .ok i ↔
      x.idx < tableCount c x.table ∧ w < 2 ^ tableWidth c x.table ∧ (x.table = .be → w = c.cmdRead) ∧ i = tableOp c x w := by
  obtain ⟨t, k⟩ := x
  unfold decode
  by_cases hidx : tableCount c t ≤ k
  · simp [hidx, Nat.not_lt.mpr hidx]
  by_cases hwide : 2 ^ tableWidth c t ≤ w
  · simp [hidx, hwide, Nat.not_lt.mpr hwide]
  rw [if_neg hidx, if_neg hwide]
  simp only [Nat.not_le] at hidx hwide
  cases t
  case be => by_cases hw : w = c.cmdRead <;> simp_all [tableOp, eq_comm]
  all_goals simp [hidx, hwide, tableOp, eq_comm]

/-- Every selector of a table but the command's matches a row (R98). -/
theorem exists_row_reference {t : Table} (ht : t ≠ .be) :
    ∀ w, w < 2 ^ tableWidth Config.reference t → ∃ r ∈ tableRows Config.reference t, w &&& r.1 = r.2 := by
  cases t
  case be => exact absurd rfl ht
  case ss => exact fun w _ => ⟨(0, 0), by decide, Nat.and_zero w⟩
  all_goals decide

/-- Only the command's table depends on the configuration (R109). -/
theorem tableRows_eq_reference (c : Config) {t : Table} (ht : t ≠ .be) :
    tableRows c t = tableRows Config.reference t ∧ tableWidth c t = tableWidth Config.reference t := by
  cases t
  case be => exact absurd rfl ht
  all_goals exact ⟨rfl, rfl⟩

theorem rowOf_lt_length {c : Config} {t : Table} {w : Nat} (ht : t ≠ .be) (hw : w < 2 ^ tableWidth c t) :
    rowOf c t w < (tableRows c t).length := by
  obtain ⟨hrows, hwidth⟩ := tableRows_eq_reference c ht
  obtain ⟨r, hr, hmatch⟩ := exists_row_reference ht w (hwidth ▸ hw)
  exact List.findIdx_lt_length_of_exists ⟨r, hrows ▸ hr, beq_iff_eq.mpr hmatch⟩

/-- The table's decoder picks the operation of the first row that matches. -/
theorem rowIndex_tableOp {c : Config} {x : Site} {w : Nat} (ht : x.table ≠ .be) (hw : w < 2 ^ tableWidth c x.table) :
    rowIndex (tableOp c x w) = rowOf c x.table w := by
  obtain ⟨t, k⟩ := x
  have hrow := rowOf_lt_length ht hw
  dsimp only at hrow
  cases t
  case be => exact absurd rfl ht
  all_goals
    simp only [tableOp, decodeSlot, decodeSubmit, decodeAdmission, decodeAlloc, decodeArbiter, decodeResponse, decodeWbOrd,
      decodeWbUnord, decodeShape, decodeFaultOut, decodeRollback]
    generalize rowOf c _ w = r at hrow ⊢
    simp only [tableRows, List.length_cons, List.length_nil] at hrow
    interval_cases r <;> rfl

/-- Settles O27: the decoder picks by the index of the first row that matches, and one does. -/
theorem tablesAreTotal : Obligations.TablesAreTotal := by
  intro c x w ht hx hw
  have hrow := rowOf_lt_length ht hw
  refine ⟨tableOp c x w, decode_eq_ok.mpr ⟨hx, hw, fun h => absurd h ht, rfl⟩, ?_⟩
  rw [rowIndex_tableOp ht hw]
  refine ⟨hrow, ⟨_, List.getElem?_eq_getElem hrow, ?_⟩, fun k hk r hr hmatch => ?_⟩
  · exact beq_iff_eq.mp (List.findIdx_getElem (w := hrow))
  · obtain ⟨hlt, rfl⟩ := List.getElem?_eq_some_iff.mp hr
    simpa [hmatch] using List.not_of_lt_findIdx hk

end Sys2Proof.Machine
end

section
/-!
Decoder and encoder are inverse (O25, O26): the decoder reads an operation back from the word that the encoder writes, and
what a selector decodes to is encoded as that selector.
-/
namespace Sys2Proof.Machine

/-! ## Decoding what is encoded -/

/-- A well-formed operation has a component that the block has (R98 to R109). -/
theorem encode_idx_lt {c : Config} {i : Instr} (h : WellFormed c i = true) :
    (encode c i).1.idx < tableCount c (encode c i).1.table := by
  cases i <;> simp_all [WellFormed, encode, tableCount]

/-- The read command of an admissible configuration fits its field (R94). -/
theorem cmdRead_lt {c : Config} (h : c.ok = true) : c.cmdRead < 2 ^ c.cmdW := by
  simp only [Config.ok, Bool.and_eq_true, decide_eq_true_eq] at h
  exact h.2

/-- The encoder writes a selector of its table's width. -/
theorem encode_lt {c : Config} (hok : c.ok = true) (i : Instr) : (encode c i).2 < 2 ^ tableWidth c (encode c i).1.table := by
  cases i with
  | slotResubmitFault | slotEmpty | slotEnqWrite | idleCancel | idleIssue | idleWait | reqCancel | reqFire | reqStall
  | respDiscardNow | respDiscardPending | respCapture | respMarkCancel | respWait | wbCancel | wbFire | wbHold =>
    exact ssWord_lt ..
  | slotInvariantFault _ ss => exact ss.isLt
  | subBad | subCapture | subNone => exact subWord_lt ..
  | admNone | admBadClass | admFlushed | admExc | admReplay | admUntracked | admEnqOrd | admEnqUnord => exact admWord_lt ..
  | allocGrant | allocReject | allocNone => exact alWord_lt ..
  | arbOrdMultiFault | arbOrdFire | arbOrdStall | arbUnordFire | arbUnordStall | arbIdle => exact arWord_lt ..
  | respDeliver | respStale | respNone => exact rsWord_lt ..
  | wbOrdMultiFault | wbOrdFire | wbOrdHold | wbOrdNone => exact woWord_lt ..
  | wbUnFire | wbUnHold | wbUnNone => exact wuWord_lt ..
  | szLb | szLh | szLw | szLd | szLbu | szLhu | szLwu | szRsv | faultReport | faultNone => simp [encode, tableWidth]
  | rbNone | rbTieFault | rbArm | rbSuppress => exact rbWord_lt ..
  | beRead => exact cmdRead_lt hok

theorem encode_be {c : Config} {i : Instr} (h : (encode c i).1.table = .be) : (encode c i).2 = c.cmdRead := by
  cases i <;> simp_all [encode]

/-- The table's decoder reads the operation back from the signals that the encoder writes for it. -/
theorem tableOp_encode {c : Config} {i : Instr} (h : WellFormed c i = true) :
    tableOp c (encode c i).1 (encode c i).2 = i := by
  cases i with
  | slotResubmitFault | slotEmpty | slotEnqWrite | idleCancel | idleIssue | idleWait | reqCancel | reqFire | reqStall
  | respDiscardNow | respDiscardPending | respCapture | respMarkCancel | respWait | wbCancel | wbFire | wbHold =>
    simp [encode, tableOp, decodeSlot_ssWord, slotOp]
  | slotInvariantFault k ss =>
    simp only [WellFormed, Bool.and_eq_true, decide_eq_true_eq] at h
    simp [encode, tableOp, decodeSlot, h.2]
  | subBad | subCapture | subNone => simp_all [encode, tableOp, decodeSubmit_subWord, WellFormed, Cls.legal]
  | admNone | admBadClass | admFlushed | admExc | admReplay | admUntracked | admEnqOrd | admEnqUnord =>
    simp_all [encode, tableOp, decodeAdmission_admWord, admissionOp, WellFormed, Cls.legal]
  | allocGrant | allocReject | allocNone => simp [encode, tableOp, decodeAlloc_alWord]
  | arbOrdMultiFault | arbOrdFire | arbOrdStall | arbUnordFire | arbUnordStall | arbIdle =>
    simp [encode, tableOp, decodeArbiter_arWord]
  | respDeliver | respStale | respNone => simp [encode, tableOp, decodeResponse_rsWord]
  | wbOrdMultiFault | wbOrdFire | wbOrdHold | wbOrdNone => simp [encode, tableOp, decodeWbOrd_woWord]
  | wbUnFire | wbUnHold | wbUnNone => simp [encode, tableOp, decodeWbUnord_wuWord]
  | szLb | szLh | szLw | szLd | szLbu | szLhu | szLwu | szRsv | faultReport | faultNone | beRead =>
    simp only [encode]
    rfl
  | rbNone | rbTieFault | rbArm | rbSuppress => simp_all [encode, tableOp, decodeRollback_rbWord, WellFormed]

/-- Settles O25: the encoder names a component of the block and writes a word of its table's width, from which the table's
decoder reads the operation back. -/
theorem decodeOfEncode : Obligations.DecodeOfEncode :=
  fun _ i hok hwf => decode_eq_ok.mpr ⟨encode_idx_lt hwf, encode_lt hok i, encode_be, (tableOp_encode hwf).symm⟩

/-- Settles O24: each word is the one that the encoder writes for its row. -/
theorem decodedWords : Obligations.DecodedWords :=
  ⟨decodeOfEncode _ (.respDiscardPending 1) rfl rfl, decodeOfEncode _ (.idleCancel 3 true) rfl rfl,
    decodeOfEncode _ (.subCapture 0 .ord) rfl rfl, decodeOfEncode _ (.admExc 2 true .unord) rfl rfl,
    decodeOfEncode _ (.allocReject 1) rfl rfl, decodeOfEncode _ (.arbOrdFire true) rfl rfl,
    decodeOfEncode _ .respStale rfl rfl, decodeOfEncode _ .wbOrdHold rfl rfl, decodeOfEncode _ (.wbUnFire 1) rfl rfl,
    decodeOfEncode _ (.szLhu 0) rfl rfl, decodeOfEncode _ .faultReport rfl rfl,
    decodeOfEncode _ (.rbSuppress false false true) rfl rfl, decodeOfEncode _ (.beRead 2) rfl rfl⟩

/-! ## Encoding what is decoded -/

/-- The operation of a breach carries the whole slot selector (R169). -/
theorem toNat_ofNat_of_slotSelector {w : Nat} (hw : w < 2 ^ 7) : (BitVec.ofNat 7 w).toNat = w := by
  rw [BitVec.toNat_ofNat, Nat.mod_eq_of_lt hw]

theorem encode_slotOp (c : Config) (k : Nat) (st : SlotState) (occ cancel cpend ev en : Bool) :
    encode c (slotOp k st occ cancel cpend ev en) = (⟨.ss, k⟩, ssWord st occ cancel cpend ev en) := by
  have hbreach : (BitVec.ofNat 7 (ssWord st occ cancel cpend ev en)).toNat = ssWord st occ cancel cpend ev en :=
    by
    rw [BitVec.toNat_ofNat, Nat.mod_eq_of_lt (ssWord_lt ..)]
  cases occ <;> cases en
  case true.false => cases st <;> simp only [slotOp] <;> split_ifs <;> simp_all [encode]
  case true.true => rfl
  all_goals
    simp only [slotOp]
    split_ifs <;> simp_all [encode]

theorem encode_admissionOp (c : Config) (l : Nat) (v fh exc replay : Bool) (cls : Cls) :
    encode c (admissionOp l v fh exc replay cls) = (⟨.adm, l⟩, admWord v fh exc replay cls) := by
  unfold admissionOp
  split_ifs <;> cases cls <;> simp_all [encode]

/-- A selector of its table's width is the word that the encoder writes for what the table's decoder picks. -/
theorem encode_tableOp {c : Config} {x : Site} {w : Nat} (hx : x.idx < tableCount c x.table)
    (hw : w < 2 ^ tableWidth c x.table) (hbe : x.table = .be → w = c.cmdRead) : encode c (tableOp c x w) = (x, w) := by
  obtain ⟨t, k⟩ := x
  cases t <;> simp only [tableWidth, tableCount, Nat.lt_one_iff] at hw hx <;> simp only [tableOp]
  case ss => rw [← ssWord_fields hw, decodeSlot_ssWord, encode_slotOp]
  case adm => rw [← admWord_fields hw, decodeAdmission_admWord, encode_admissionOp]
  case sz => interval_cases w <;> rfl
  case fo =>
    subst hx
    interval_cases w <;> rfl
  case be => rw [hbe rfl, encode]
  case' sub => rw [← subWord_fields hw, decodeSubmit_subWord]
  case' al => rw [← alWord_fields hw, decodeAlloc_alWord]
  case' ar => rw [← arWord_fields hw, decodeArbiter_arWord]
  case' rs => rw [← rsWord_fields hw, decodeResponse_rsWord]
  case' wo => rw [← woWord_fields hw, decodeWbOrd_woWord]
  case' wu => rw [← wuWord_fields hw, decodeWbUnord_wuWord]
  case' rb => rw [← rbWord_fields hw, decodeRollback_rbWord]
  all_goals split_ifs <;> simp_all [encode]

/-- What a table's decoder picks for a component of the block is well-formed: the row that it picks is the first to match. -/
theorem wellFormed_tableOp {c : Config} {x : Site} {w : Nat} (hx : x.idx < tableCount c x.table)
    (hw : w < 2 ^ tableWidth c x.table) : WellFormed c (tableOp c x w) = true := by
  obtain ⟨t, k⟩ := x
  cases t
  case ss =>
    have hrow := rowOf_lt_length (t := .ss) nofun hw
    have hword := toNat_ofNat_of_slotSelector hw
    simp only [tableOp, decodeSlot]
    generalize hr : rowOf c .ss w = r at hrow
    simp only [tableRows, List.length_cons, List.length_nil] at hrow
    simp only [tableCount] at hx
    interval_cases r <;> simp [WellFormed, hx, hword, hr]
  case be => simpa [tableOp, WellFormed, tableCount] using hx
  case' sub => rw [tableOp, ← subWord_fields hw, decodeSubmit_subWord]
  case' adm => rw [tableOp, ← admWord_fields hw, decodeAdmission_admWord, admissionOp]
  case' rb => rw [tableOp, ← rbWord_fields hw, decodeRollback_rbWord]
  case sub | adm | rb => split_ifs <;> simp_all [WellFormed, Cls.legal, tableCount]
  all_goals
    simp only [tableOp, decodeAlloc, decodeArbiter, decodeResponse, decodeWbOrd, decodeWbUnord, decodeShape, decodeFaultOut]
    split <;> simp_all [WellFormed, tableCount]

/-- Settles O26: a selector that decodes is of its table's width and of a component of the block. -/
theorem encodeOfDecode : Obligations.EncodeOfDecode := by
  intro c x w i _ hd
  obtain ⟨hx, hw, hbe, rfl⟩ := decode_eq_ok.mp hd
  exact ⟨wellFormed_tableOp hx hw, encode_tableOp hx hw hbe⟩

end Sys2Proof.Machine
end

section
/-!
The packed messages (R95, R96): a word made of fields, least significant first, and the fields of a word (O28).
-/
namespace Sys2Proof.Machine

/-! ## Two fields, one above the other -/

theorem field_add_mul_low {lo p : Nat} (h : lo < 2 ^ p) (hi : Nat) : field (lo + 2 ^ p * hi) 0 p = lo := by
  rw [field_eq, pow_zero, Nat.div_one, Nat.add_mul_mod_self_left, Nat.mod_eq_of_lt h]

theorem shiftRight_add_mul {lo p : Nat} (h : lo < 2 ^ p) (hi : Nat) : (lo + 2 ^ p * hi) >>> p = hi := by
  rw [Nat.shiftRight_eq_div_pow, Nat.add_mul_div_left _ _ (Nat.two_pow_pos p), Nat.div_eq_of_lt h, Nat.zero_add]

theorem add_mul_lt {lo hi p q : Nat} (hlo : lo < 2 ^ p) (hhi : hi < 2 ^ q) : lo + 2 ^ p * hi < 2 ^ (p + q) := by
  calc lo + 2 ^ p * hi < 2 ^ p * (hi + 1) := by rw [Nat.mul_succ]; omega
    _ ≤ 2 ^ p * 2 ^ q := Nat.mul_le_mul_left _ hhi
    _ = 2 ^ (p + q) := (pow_add ..).symm

theorem field_add_mul_shiftRight (w p : Nat) : field w 0 p + 2 ^ p * (w >>> p) = w := by
  rw [field_eq, Nat.shiftRight_eq_div_pow, pow_zero, Nat.div_one, Nat.mod_add_div]

theorem shiftRight_lt {w p q : Nat} (h : w < 2 ^ (p + q)) : w >>> p < 2 ^ q := by
  rw [Nat.shiftRight_eq_div_pow]
  exact Nat.div_lt_of_lt_mul (pow_add 2 p q ▸ h)

theorem field_of_lt {w len : Nat} (h : w < 2 ^ len) : field w 0 len = w := Nat.mod_eq_of_lt h

theorem bitNat_testBit_zero (w : Nat) : bitNat (w.testBit 0) = field w 0 1 := by
  rw [bitNat_testBit, field_eq, pow_one]

theorem testBit_zero_of_bitNat (b : Bool) (hi : Nat) : (bitNat b + 2 ^ 1 * hi).testBit 0 = b := by
  rw [Nat.testBit_zero, pow_one, Nat.add_mul_mod_self_left]
  cases b <;> rfl

/-! ## BEREQ -/

/-- `BEREQ` with each field above the ones before it (R95). -/
theorem beReqWord_eq (c : Config) (m : BeReq) :
    beReqWord c m =
      m.addr + 2 ^ c.paddrBits * (m.mask8.toNat + 2 ^ 8 * (m.cmd + 2 ^ c.cmdW * (bitNat m.atomic + 2 ^ 1 * m.tag))) := by
  unfold beReqWord
  ring

theorem beReqFields_eq (c : Config) (w : Nat) :
    beReqFields c w =
      { addr := field w 0 c.paddrBits
        mask8 := BitVec.ofNat 8 (field (w >>> c.paddrBits) 0 8)
        cmd := field (w >>> c.paddrBits >>> 8) 0 c.cmdW
        atomic := (w >>> c.paddrBits >>> 8 >>> c.cmdW).testBit 0
        tag := field (w >>> c.paddrBits >>> 8 >>> c.cmdW >>> 1) 0 c.idxW } := by
  simp [beReqFields, field, ← Nat.shiftRight_add, Nat.add_comm, Nat.add_left_comm]

theorem beReqFields_beReqWord {c : Config} {m : BeReq} (haddr : m.addr < 2 ^ c.paddrBits) (hcmd : m.cmd < 2 ^ c.cmdW)
    (htag : m.tag < 2 ^ c.idxW) : beReqFields c (beReqWord c m) = m := by
  simp only [beReqFields_eq, beReqWord_eq, shiftRight_add_mul haddr, shiftRight_add_mul hcmd,
    shiftRight_add_mul m.mask8.isLt, shiftRight_add_mul (p := 1) (bitNat_lt m.atomic), field_add_mul_low haddr,
    field_add_mul_low hcmd, field_add_mul_low m.mask8.isLt, testBit_zero_of_bitNat, field_of_lt htag, BitVec.ofNat_toNat,
    BitVec.setWidth_eq]

theorem beReqWord_lt {c : Config} {m : BeReq} (haddr : m.addr < 2 ^ c.paddrBits) (hcmd : m.cmd < 2 ^ c.cmdW)
    (htag : m.tag < 2 ^ c.idxW) : beReqWord c m < 2 ^ (c.paddrBits + (8 + (c.cmdW + (1 + c.idxW)))) := by
  rw [beReqWord_eq]
  exact add_mul_lt haddr (add_mul_lt m.mask8.isLt (add_mul_lt hcmd (add_mul_lt (bitNat_lt m.atomic) htag)))

theorem beReqWord_beReqFields {c : Config} {w : Nat} (hw : w < 2 ^ (c.paddrBits + (8 + (c.cmdW + (1 + c.idxW))))) :
    beReqWord c (beReqFields c w) = w := by
  have htag := shiftRight_lt (shiftRight_lt (shiftRight_lt (shiftRight_lt hw)))
  simp only [beReqWord_eq, beReqFields_eq, BitVec.toNat_ofNat, Nat.mod_eq_of_lt (field_lt _ 0 8), bitNat_testBit_zero,
    field_of_lt htag, field_add_mul_shiftRight]

/-! ## BERESP -/

/-- `BERESP` with each field above the ones before it (R96). -/
theorem beRespWord_eq (r : Response) : beRespWord r = r.data.toNat + 2 ^ 64 * (bitNat r.err + 2 ^ 1 * r.tag) := by
  unfold beRespWord
  ring

theorem beRespFields_eq (c : Config) (w : Nat) :
    beRespFields c w =
      { valid := true
        data := BitVec.ofNat 64 (field w 0 64)
        err := (w >>> 64).testBit 0
        tag := field (w >>> 64 >>> 1) 0 c.idxW } := by
  simp [beRespFields, field, ← Nat.shiftRight_add]

theorem beRespFields_beRespWord {c : Config} {r : Response} (hvalid : r.valid = true) (htag : r.tag < 2 ^ c.idxW) :
    beRespFields c (beRespWord r) = r := by
  simp only [beRespFields_eq, beRespWord_eq, shiftRight_add_mul r.data.isLt, shiftRight_add_mul (p := 1) (bitNat_lt r.err),
    field_add_mul_low r.data.isLt, testBit_zero_of_bitNat, field_of_lt htag, BitVec.ofNat_toNat, BitVec.setWidth_eq, ← hvalid]

theorem beRespWord_lt {c : Config} {r : Response} (htag : r.tag < 2 ^ c.idxW) :
    beRespWord r < 2 ^ (64 + (1 + c.idxW)) := by
  rw [beRespWord_eq]
  exact add_mul_lt r.data.isLt (add_mul_lt (bitNat_lt r.err) htag)

theorem beRespWord_beRespFields {c : Config} {w : Nat} (hw : w < 2 ^ (64 + (1 + c.idxW))) :
    beRespWord (beRespFields c w) = w := by
  have htag := shiftRight_lt (shiftRight_lt hw)
  simp only [beRespWord_eq, beRespFields_eq, BitVec.toNat_ofNat, Nat.mod_eq_of_lt (field_lt _ 0 64), bitNat_testBit_zero,
    field_of_lt htag, field_add_mul_shiftRight]

/-- Settles O28: both messages are packed and unpacked field by field, from the least significant one up. -/
theorem messagesRoundTrip : Obligations.MessagesRoundTrip := by
  intro c
  have hreq : c.paddrBits + 9 + c.cmdW + c.idxW = c.paddrBits + (8 + (c.cmdW + (1 + c.idxW))) := by omega
  have hresp : 65 + c.idxW = 64 + (1 + c.idxW) := by omega
  rw [hreq, hresp]
  exact ⟨fun m haddr hcmd htag => ⟨beReqFields_beReqWord haddr hcmd htag, beReqWord_lt haddr hcmd htag⟩,
    fun w hw => beReqWord_beReqFields hw,
    fun r hvalid htag => ⟨beRespFields_beRespWord hvalid htag, beRespWord_lt htag⟩,
    fun w hw => beRespWord_beRespFields hw⟩

end Sys2Proof.Machine
end

section
/-!
A step at the turn of a component whose selector decodes (R98, R135): O29.
-/
namespace Sys2Proof.Machine

/-- Components that have brought the cycle to `m` go on with the rest from there, to whatever outcome. -/
theorem runSites_append_of_next {xs : List Site} {s m : State} (h : runSites xs s = .next m) (ys : List Site) :
    runSites (xs ++ ys) s = runSites ys m := by
  induction xs generalizing s with
  | nil =>
    cases h
    rfl
  | cons x xs ih =>
    obtain ⟨p, hx, hxs⟩ := runSites_cons_eq_next.mp h
    simp only [List.cons_append, runSites, hx, ih hxs]

theorem runSite_of_performs {s : State} {x : Site} {i : Instr} (h : Performs s x i) :
    runSite x s = exec i { s with trace := s.trace ++ [(x, selector s x)] } := by
  obtain ⟨hactive, hd⟩ := h
  simp [runSite, hactive, hd]

/-- Settles O29: the schedule runs up to `x`, `x` performs what its selector decodes to, and the rest follows. -/
theorem stepRunsTheDecodedOperation : Obligations.StepRunsTheDecodedOperation := by
  intro s m pre post x i hsplit hpre hx
  simp only [step, cycle, hsplit, runSites_append_of_next hpre, runSites, runSite_of_performs hx]
  cases exec i { m with trace := m.trace ++ [(x, selector m x)] } <;> rfl

end Sys2Proof.Machine
end

section
/-!
The per-slot conditions of R133, R134 and R230 and the offers of R260 and R263, each in the words of its rule (O4).
-/
namespace Sys2Proof.Machine

theorem hit_iff {c : Config} {a : AgeKey} {f : AgeSignal} :
    hit c a f = true ↔ f.valid = true ∧ older c a f.age = false := by
  simp [hit]

theorem cancelNow_iff {s : State} {i : Nat} :
    cancelNow s i = true ↔
      (s.slot i).occ = true ∧ s.inp.flush.valid = true ∧ older s.cfg (s.slot i).req.age s.inp.flush.age = false := by
  simp only [cancelNow, Bool.and_eq_true, hit_iff]

theorem elig_iff {s : State} {i : Nat} :
    elig s i = true ↔ (s.slot i).occ = true ∧
      ((s.slot i).req.cls = .unord ∨ s.regs.tokD1.valid = true ∧ s.regs.tokD1.age = (s.slot i).req.age) := by
  simp only [elig, Bool.and_eq_true, Bool.or_eq_true, decide_eq_true_eq]

theorem ordReq_iff {s : State} {i : Nat} :
    ordReq s i = true ↔
      (s.slot i).st = .req ∧ (s.slot i).req.cls = .ord ∧ elig s i = true ∧ cancelNow s i = false := by
  simp only [ordReq, Bool.and_eq_true, Bool.not_eq_true', decide_eq_true_eq, and_assoc]

theorem unReq_iff {s : State} {i : Nat} :
    unReq s i = true ↔ (s.slot i).st = .req ∧ (s.slot i).req.cls = .unord ∧ cancelNow s i = false := by
  simp only [unReq, Bool.and_eq_true, Bool.not_eq_true', decide_eq_true_eq, and_assoc]

theorem anyOrd_iff {s : State} : anyOrd s = true ↔ ∃ k, k < s.cfg.n ∧ ordReq s k = true := anyBelow_iff

theorem anyUn_iff {s : State} : anyUn s = true ↔ ∃ k, k < s.cfg.n ∧ unReq s k = true := anyBelow_iff

theorem ordMulti_iff {s : State} :
    ordMulti s = true ↔ ∃ k l, k < l ∧ l < s.cfg.n ∧ ordReq s k = true ∧ ordReq s l = true := by
  rw [ordMulti, decide_eq_true_eq, one_lt_countBelow]

theorem wbv_iff {s : State} {i : Nat} : wbv s i = true ↔ (s.slot i).st = .wb ∧ cancelNow s i = false := by
  simp only [wbv, Bool.and_eq_true, Bool.not_eq_true', decide_eq_true_eq]

theorem ordWb_iff {s : State} {i : Nat} :
    ordWb s i = true ↔ (s.slot i).st = .wb ∧ (s.slot i).req.cls = .ord ∧ cancelNow s i = false := by
  simp only [ordWb, Bool.and_eq_true, wbv_iff, decide_eq_true_eq, and_assoc, and_comm (a := cancelNow s i = false)]

theorem unWb_iff {s : State} {i : Nat} :
    unWb s i = true ↔ (s.slot i).st = .wb ∧ (s.slot i).req.cls = .unord ∧ cancelNow s i = false := by
  simp only [unWb, Bool.and_eq_true, wbv_iff, decide_eq_true_eq, and_assoc, and_comm (a := cancelNow s i = false)]

/-- An unordered slot is offered on the port of its index modulo the number of unordered ports (R263, R264). -/
theorem unWbOn_iff {s : State} {j i : Nat} :
    unWbOn s j i = true ↔
      (s.slot i).st = .wb ∧ (s.slot i).req.cls = .unord ∧ cancelNow s i = false ∧ i % (s.cfg.m - 1) = j := by
  simp only [unWbOn, Bool.and_eq_true, unWb_iff, decide_eq_true_eq, and_assoc]
  rfl

/-- Settles O4: the conditions are one by one those of their rules. -/
theorem slotConditions : Obligations.SlotConditions :=
  fun _ _ => ⟨cancelNow_iff, elig_iff, ordReq_iff, unReq_iff, anyOrd_iff, anyUn_iff, ordMulti_iff, ordWb_iff,
    fun _ => unWbOn_iff⟩

end Sys2Proof.Machine
end

section
/-!
Every step answers a next state (O30, R137). An operation stops only on a component that the block does not have or where
its rule chooses from an empty set; the selector that picks it excludes both. A selector fits its table's width, so it
decodes; of the command on the channel, which only the read command does, a cycle keeps that it is that.
-/
namespace Sys2Proof.Machine

/-! ## Choices from sets that are not empty -/

theorem roundRobin_isSome {n last : Nat} {r : Nat → Bool} (h : anyBelow n r = true) : (roundRobin n last r).isSome = true := by
  unfold roundRobin
  split
  · rfl
  · rw [leastBelow_isSome, h]

/-- A pool has as many indices to pick as free ones (R195). -/
theorem pick_isSome {draw : List Nat} {pool : List Bool} {k : Nat} (h : k < pool.count true) :
    (pick draw pool k).isSome = true := by
  simpa [pick, length_drawOrder, length_freeList] using h

/-- Several completions are at least one (R260). -/
theorem ordWbAny_of_ordWbMulti {s : State} (h : ordWbMulti s = true) : ordWbAny s = true := by
  obtain ⟨i, j, hij, hj, hi, -⟩ := one_lt_countBelow.mp (of_decide_eq_true h)
  exact anyBelow_iff.mpr ⟨i, hij.trans hj, hi⟩

/-- Index `u` has a strictly older age than index `w`. -/
abbrev OlderIndex (c : Config) (age : Nat → AgeKey) {n : Nat} (u w : Fin n) : Prop := older c (age u) (age w) = true

/-- Among finitely many indices one has an oldest age: the age order is strict. -/
theorem exists_oldest {n : Nat} {p : Nat → Bool} (c : Config) (age : Nat → AgeKey) (h : anyBelow n p = true) :
    ∃ w, w < n ∧ p w = true ∧ ∀ u, u < n → p u = true → older c (age u) (age w) = false := by
  have : IsTrans (Fin n) (OlderIndex c age) := ⟨fun _ _ _ => older_trans⟩
  have : Std.Irrefl (OlderIndex c age (n := n)) := ⟨fun w => by simp [older_irrefl]⟩
  obtain ⟨k, hk, hp⟩ := anyBelow_iff.mp h
  obtain ⟨w, hw, hmin⟩ :=
    (Finite.wellFounded_of_trans_of_irrefl (OlderIndex c age)).has_min {w : Fin n | p w = true} ⟨⟨k, hk⟩, hp⟩
  exact ⟨w, w.isLt, hw, fun u hu hpu => by simpa using hmin ⟨u, hu⟩ hpu⟩

/-- A candidate for the rollback is oldest if no other one is strictly older (R291). -/
theorem rbOldest_iff {s : State} {w : Nat} :
    rbOldest s w = true ↔ rbCand s w = true ∧
      ∀ u, u < s.cfg.w → u ≠ w → rbCand s u = true → older s.cfg (s.stage u).c.age (s.stage w).c.age = false := by
  simp [rbOldest, or_iff_not_imp_left]

theorem rbElected_isSome {s : State} (h : rbAny s = true) : (rbElected s).isSome = true := by
  obtain ⟨w, hw, hcand, hold⟩ := exists_oldest s.cfg (fun u => (s.stage u).c.age) h
  rw [rbElected, leastBelow_isSome]
  exact anyBelow_iff.mpr ⟨w, hw, rbOldest_iff.mpr ⟨hcand, fun u hu _ => hold u hu⟩⟩

/-! ## When an operation completes -/

/-- The signal that says that an operation's choice is from a set that is not empty; most operations choose nothing. -/
def HasChoice (s : State) : Instr → Prop
  | .slotEnqWrite i _ => enqEn s i = true
  | .allocGrant w => canAlloc s w = true
  | .arbOrdMultiFault _ _ | .arbOrdFire _ | .arbOrdStall _ => anyOrd s = true
  | .arbUnordFire _ | .arbUnordStall _ => anyUn s = true
  | .respDeliver => awaiting s = true
  | .wbOrdMultiFault _ _ | .wbOrdFire | .wbOrdHold => ordWbAny s = true
  | .wbUnFire j | .wbUnHold j => unAny s j = true
  | .faultReport => faultAny s = true
  | .rbTieFault _ _ _ | .rbArm => rbAny s = true
  | _ => True

theorem onChoice_completes {g : Option Nat} {t : Nat → State} (h : g.isSome = true) : ∃ t', onChoice g t = .next t' := by
  obtain ⟨i, rfl⟩ := Option.isSome_iff_exists.mp h
  exact ⟨t i, rfl⟩

/-- An operation of a component that the block has, with something to choose where its rule chooses, does not stop. -/
theorem exec_completes {i : Instr} {s : State} (hwf : WellFormed s.cfg i = true) (hchoice : HasChoice s i) :
    ∃ t, exec i s = .next t := by
  cases i with
  | slotResubmitFault | slotEmpty | idleCancel | idleIssue | idleWait | reqCancel | reqFire | reqStall | respDiscardNow
  | respDiscardPending | respCapture | respMarkCancel | respWait | wbCancel | wbFire | wbHold
  | szLb | szLh | szLw | szLd | szLbu | szLhu | szLwu | szRsv | beRead | subBad | subNone | admNone | admBadClass
  | admUntracked | admEnqOrd | admEnqUnord | allocReject | allocNone | wbUnNone =>
    exact ⟨_, if_pos (of_decide_eq_true hwf)⟩
  | slotInvariantFault | subCapture | admFlushed | admExc | admReplay =>
    exact ⟨_, if_pos (of_decide_eq_true (Bool.and_eq_true_iff.mp hwf).1)⟩
  | slotEnqWrite =>
    obtain ⟨t, ht⟩ := onChoice_completes hchoice
    exact ⟨t, (if_pos (of_decide_eq_true hwf)).trans ht⟩
  | allocGrant =>
    obtain ⟨t, ht⟩ := onChoice_completes (pick_isSome (of_decide_eq_true hchoice))
    exact ⟨t, (if_pos (of_decide_eq_true hwf)).trans ht⟩
  | wbUnFire | wbUnHold =>
    obtain ⟨t, ht⟩ := onChoice_completes (leastBelow_isSome.trans hchoice)
    exact ⟨t, (if_pos (of_decide_eq_true hwf)).trans ht⟩
  | arbUnordFire | arbUnordStall => exact onChoice_completes (roundRobin_isSome hchoice)
  | rbTieFault | rbArm => exact onChoice_completes (rbElected_isSome hchoice)
  | arbOrdMultiFault | arbOrdFire | arbOrdStall | wbOrdMultiFault | wbOrdFire | wbOrdHold | faultReport =>
    exact onChoice_completes (leastBelow_isSome.trans hchoice)
  | respDeliver => exact ⟨_, if_pos (of_decide_eq_true (Bool.and_eq_true_iff.mp hchoice).1)⟩
  | arbIdle | respStale | respNone | wbOrdNone | faultNone | rbNone | rbSuppress => exact ⟨_, rfl⟩

/-! ## What a component's signals pick -/

/-- Only an empty slot that a lane was granted takes a Request (R151). -/
theorem hasChoice_slotOp {s : State} {k : Nat} {st : SlotState} {occ cancel cpend ev : Bool} :
    HasChoice s (slotOp k st occ cancel cpend ev (enqEn s k)) := by
  cases occ <;> cases hen : enqEn s k
  case true.false => cases st <;> simp only [slotOp] <;> split_ifs <;> trivial
  case true.true => trivial
  case false.false =>
    simp only [slotOp]
    split_ifs <;> trivial
  case false.true =>
    simp only [slotOp]
    split_ifs
    · exact hen
    · trivial

/-- A row that chooses is picked only by the signal that there is something to choose. -/
theorem hasChoice_tableOp (s : State) (x : Site) : HasChoice s (tableOp s.cfg x (selector s x)) := by
  obtain ⟨t, k⟩ := x
  cases t
  case ss =>
    rw [tableOp_slot]
    exact hasChoice_slotOp
  case sz =>
    simp only [tableOp, decodeShape]
    split <;> trivial
  case fo =>
    simp only [tableOp, selector, selFaultOut]
    cases hany : faultAny s
    · trivial
    · exact hany
  case be => trivial
  case' sub => rw [tableOp_submit]
  case' adm => rw [tableOp_admission, admissionOp]
  case' al => rw [tableOp_alloc]
  case' ar => rw [tableOp, selector, selArbiter, decodeArbiter_arWord]
  case' rs => rw [tableOp, selector, selResponse, decodeResponse_rsWord]
  case' wo => rw [tableOp, selector, selWbOrd, decodeWbOrd_woWord]
  case' wu => rw [tableOp, selector, selWbUnord, decodeWbUnord_wuWord]
  case' rb => rw [tableOp, selector, selRollback, decodeRollback_rbWord]
  all_goals split_ifs <;> simp_all [HasChoice, ordWbAny_of_ordWbMulti]

/-! ## The command on the channel -/

/-- The channel holds no message, or one with the read command (R94). -/
def SendsRead (s : State) : Prop := ∀ m, s.out.beReq = some m → m.cmd = s.cfg.cmdRead

theorem handoff_beReq (s : State) (g : Nat) (r : Bool) : (s.handoff g r).out.beReq = some (beReq s g) := by
  cases r <;> simp [State.handoff]

theorem drainOrd_beReq (s : State) (o : Nat) (r : Bool) : (s.drainOrd o r).out.beReq = s.out.beReq := by
  cases r <;> simp [State.drainOrd]

theorem drainUn_beReq (s : State) (j u : Nat) (r : Bool) : (s.drainUn j u r).out.beReq = s.out.beReq := by
  cases r <;> simp [State.drainUn]

/-- What an operation can do to the channel: leave it, clear it, or put a slot's message on it (R235, R241). -/
theorem exec_beReq {i : Instr} {s s' : State} (h : exec i s = .next s') :
    s'.out.beReq = s.out.beReq ∨ s'.out.beReq = none ∨ ∃ g, s'.out.beReq = some (beReq s g) := by
  cases i with
  | arbOrdMultiFault | arbOrdFire | arbOrdStall | arbUnordFire | arbUnordStall =>
    obtain ⟨g, -, rfl⟩ := onChoice_eq_next.mp h
    exact .inr (.inr ⟨g, handoff_beReq ..⟩)
  | beRead g =>
    obtain ⟨-, rfl⟩ := onSlot_eq_next.mp h
    exact .inr (.inr ⟨g, rfl⟩)
  | arbIdle =>
    cases h
    exact .inr (.inl rfl)
  | slotResubmitFault | slotEmpty | idleCancel | idleIssue | idleWait | reqCancel | reqFire | reqStall | respDiscardNow
  | respDiscardPending | respCapture | respMarkCancel | respWait | wbCancel | wbFire | wbHold | slotInvariantFault
  | respDeliver | szLb | szLh | szLw | szLd | szLbu | szLhu | szLwu | szRsv =>
    obtain ⟨-, rfl⟩ := onSlot_eq_next.mp h
    exact .inl rfl
  | subBad | subCapture | subNone | admNone | admBadClass | admFlushed | admExc | admReplay | admUntracked | admEnqOrd
  | admEnqUnord | allocReject | allocNone =>
    obtain ⟨-, rfl⟩ := onLane_eq_next.mp h
    exact .inl rfl
  | wbUnNone =>
    obtain ⟨-, rfl⟩ := onPort_eq_next.mp h
    exact .inl rfl
  | slotEnqWrite | allocGrant =>
    simp only [exec, execSlotEnqWrite, execAllocGrant] at h
    split at h
    · obtain ⟨w, -, rfl⟩ := onChoice_eq_next.mp h
      exact .inl rfl
    · cases h
  | wbUnFire | wbUnHold =>
    simp only [exec, execWbUnFire, execWbUnHold] at h
    split at h
    · obtain ⟨u, -, rfl⟩ := onChoice_eq_next.mp h
      exact .inl (drainUn_beReq ..)
    · cases h
  | wbOrdMultiFault | wbOrdFire | wbOrdHold =>
    obtain ⟨o, -, rfl⟩ := onChoice_eq_next.mp h
    exact .inl (drainOrd_beReq ..)
  | faultReport | rbArm =>
    obtain ⟨f, -, rfl⟩ := onChoice_eq_next.mp h
    exact .inl rfl
  | rbTieFault =>
    obtain ⟨e, -, rfl⟩ := onChoice_eq_next.mp h
    dsimp only
    split <;> exact .inl rfl
  | respStale | respNone | wbOrdNone | faultNone | rbNone | rbSuppress =>
    cases h
    exact .inl rfl

theorem sendsRead_sample (s : State) : SendsRead (sample s) := nofun

theorem sendsRead_exec {i : Instr} {s s' : State} (hs : SendsRead s) (h : exec i s = .next s') : SendsRead s' := by
  intro m hm
  rw [(exec_snapshot h).1]
  rcases exec_beReq h with hold | hnone | ⟨g, hnew⟩
  · exact hs m (hold ▸ hm)
  · simp [hnone] at hm
  · obtain rfl : beReq s g = m := Option.some.inj (hnew.symm.trans hm)
    rfl

theorem sendsRead_runSite {x : Site} {s s' : State} (hs : SendsRead s) (h : runSite x s = .next s') : SendsRead s' := by
  rcases runSite_eq_next.mp h with ⟨-, rfl⟩ | ⟨-, i, -, he⟩
  · exact hs
  · exact sendsRead_exec (s := s.noting x) hs he

/-! ## Every selector decodes -/

theorem selCommand_eq {s : State} {k : Nat} (hs : SendsRead s) (h : active s ⟨.be, k⟩ = true) :
    selCommand s = s.cfg.cmdRead := by
  simp only [active] at h
  split at h
  next m hm =>
    rw [selCommand, hm]
    exact hs m hm
  · cases h

/-- The selector of a component that performs an operation fits its table (R98, R94). -/
theorem selector_lt {s : State} {x : Site} (hfit : s.cfg.cmdRead < 2 ^ s.cfg.cmdW) (hs : SendsRead s)
    (h : active s x = true) : selector s x < 2 ^ tableWidth s.cfg x.table := by
  obtain ⟨t, k⟩ := x
  cases t
  case ss => exact ssWord_lt ..
  case sub => exact subWord_lt ..
  case adm => exact admWord_lt ..
  case al => exact alWord_lt ..
  case ar => exact arWord_lt ..
  case rs => exact rsWord_lt ..
  case wo => exact woWord_lt ..
  case wu => exact wuWord_lt ..
  case sz => exact (s.slot k).req.size.isLt
  case fo => exact bitNat_lt _
  case rb => exact rbWord_lt ..
  case be =>
    show selCommand s < _
    rw [selCommand_eq hs h]
    exact hfit

/-! ## The cycle -/

/-- A component that the block has does not stop, at whatever point of a cycle its turn comes. -/
theorem runSite_completes {x : Site} {s : State} (hfit : s.cfg.cmdRead < 2 ^ s.cfg.cmdW) (hs : SendsRead s)
    (hx : x.idx < tableCount s.cfg x.table) : ∃ t, runSite x s = .next t := by
  by_cases hactive : active s x = true
  · have hw := selector_lt hfit hs hactive
    have hbe : x.table = .be → selector s x = s.cfg.cmdRead := by
      obtain ⟨t, k⟩ := x
      rintro rfl
      exact selCommand_eq hs hactive
    obtain ⟨t, ht⟩ := exec_completes (s := s.noting x) (wellFormed_tableOp hx hw) (hasChoice_tableOp (s.noting x) x)
    exact ⟨t, runSite_eq_next.mpr (.inr ⟨hactive, _, decode_eq_ok.mpr ⟨hx, hw, hbe, rfl⟩, ht⟩)⟩
  · exact ⟨s, runSite_eq_next.mpr (.inl ⟨by simpa using hactive, rfl⟩)⟩

theorem runSites_completes {xs : List Site} {s : State} (hfit : s.cfg.cmdRead < 2 ^ s.cfg.cmdW) (hs : SendsRead s)
    (hxs : ∀ x ∈ xs, x.idx < tableCount s.cfg x.table) : ∃ t, runSites xs s = .next t := by
  induction xs generalizing s with
  | nil => exact ⟨s, rfl⟩
  | cons x xs ih =>
    obtain ⟨m, hm⟩ := runSite_completes hfit hs (hxs x List.mem_cons_self)
    have hcfg : m.cfg = s.cfg := (runSite_view hm).1
    obtain ⟨t, ht⟩ := ih (hcfg ▸ hfit) (sendsRead_runSite hs hm) (hcfg ▸ fun y hy => hxs y (List.mem_cons_of_mem x hy))
    exact ⟨t, runSites_cons_eq_next.mpr ⟨m, hm, ht⟩⟩

/-- Settles O30: the schedule holds only components that the block has, and the channel is empty at the start of a cycle. -/
theorem everyStepCompletes : Obligations.EveryStepCompletes := by
  intro s hfit
  obtain ⟨m, hm⟩ := runSites_completes (s := sample s) hfit (sendsRead_sample s) fun _ => mem_schedule.mp
  exact ⟨commit m, step_eq_next.mpr ⟨m, hm, rfl⟩⟩

end Sys2Proof.Machine
end

section
/-!
The operations of a slot, one by one (41_slot.md): what each writes, and the signals that pick it (O5 to O9).
-/
namespace Sys2Proof.Machine

/-- A slot of the block performs the operation that its signals pick (R99). -/
theorem performs_slotOp {s : State} {i : Nat} {st : SlotState} {occ cancel cpend ev en : Bool} (hi : i < s.cfg.n)
    (h : SlotSignals s i st occ cancel cpend ev en) : Performs s ⟨.ss, i⟩ (slotOp i st occ cancel cpend ev en) := by
  obtain ⟨hst, hocc, hcancel, hcpend, hev, hen⟩ := h
  refine ⟨rfl, decode_eq_ok.mpr ⟨hi, ssWord_lt .., nofun, ?_⟩⟩
  rw [tableOp_slot, hst, hocc, hcancel, hcpend, hev, hen]

/-- An operation on a slot of the block answers the state that its rule writes. -/
theorem onSlot_of_lt {s t : State} {i : Nat} (hi : i < s.cfg.n) : onSlot s i t = .next t := if_pos hi

/-- Settles O5: a waiting row's meaning is the state itself, guarded by the count of the slots. -/
theorem slotsThatWait : Obligations.SlotsThatWait := by
  intro s i hi
  exact ⟨fun _ => onSlot_of_lt hi, onSlot_of_lt hi, onSlot_of_lt hi, fun _ => onSlot_of_lt hi, onSlot_of_lt hi,
    fun _ => performs_slotOp hi, performs_slotOp hi, performs_slotOp hi, fun _ => performs_slotOp hi, performs_slotOp hi⟩

/-- The lane that a slot is granted to is the least one that was given its index (R150). -/
theorem laneOf_eq_some {s : State} {i w : Nat} :
    laneOf s i = some w ↔ LeastIndex s.cfg.w (fun u => decide (s.out.enq.getD u none = some i)) w := by
  simp only [laneOf, enqIdx, leastBelow_eq_some, LeastIndex, beq_iff_eq, beq_eq_false_iff_ne, decide_eq_true_eq,
    decide_eq_false_iff_not, ne_eq]

/-- Settles O6: the lane of the premise is the one that the slot's rule names. -/
theorem slotTakesRequest : Obligations.SlotTakesRequest := by
  intro s i w ev hi hw
  refine ⟨?_, performs_slotOp hi⟩
  simp only [exec, execSlotEnqWrite, if_pos hi, laneOf_eq_some.mpr hw]
  rfl

/-- Settles O7: each rule writes its slot's fields; its row is the one without a cancel and with the progress event, or,
for the deferred cancel, the other way round. -/
theorem slotProgress : Obligations.SlotProgress := by
  intro s i hi
  exact ⟨onSlot_of_lt hi, onSlot_of_lt hi, onSlot_of_lt hi, fun _ => onSlot_of_lt hi, performs_slotOp hi, performs_slotOp hi,
    performs_slotOp hi, fun _ => performs_slotOp hi⟩

/-- Settles O8: the freeing rules differ only in the fields that they write. -/
theorem slotFrees : Obligations.SlotFrees := by
  intro s i hi
  refine ⟨fun _ => onSlot_of_lt hi, fun op hop => ?_, fun op hop => ?_, fun _ => performs_slotOp hi,
    fun _ => performs_slotOp hi, fun _ => performs_slotOp hi, performs_slotOp hi, fun _ => performs_slotOp hi,
    performs_slotOp hi⟩
  all_goals fin_cases hop <;> exact onSlot_of_lt hi

/-- Signals that break the invariant of R36 match no row but the last. -/
theorem slotOp_of_breach {i : Nat} {st : SlotState} {occ cancel cpend ev en : Bool} (hen : (occ && en) = false)
    (h : occ = false ∧ (st ≠ .idle ∨ cancel = true ∨ cpend = true) ∨ occ = true ∧ cpend = true ∧ st ≠ .resp) :
    slotOp i st occ cancel cpend ev en = .slotInvariantFault i (BitVec.ofNat 7 (ssWord st occ cancel cpend ev en)) := by
  rcases h with ⟨rfl, hempty⟩ | ⟨rfl, rfl, hst⟩
  · have hrow : ¬(st = .idle ∧ cancel = false ∧ cpend = false) := by
      rintro ⟨rfl, rfl, rfl⟩
      simp at hempty
    cases en <;> exact if_neg hrow
  · obtain rfl : en = false := hen
    cases st
    case resp => exact absurd rfl hst
    all_goals rfl

/-- Settles O9: a fault row sets its mark; a grant to an occupied slot is matched first, and a breach last. -/
theorem slotFaultRows : Obligations.SlotFaultRows := by
  intro s i hi
  refine ⟨fun _ _ _ _ => ⟨onSlot_of_lt hi, performs_slotOp hi⟩, fun _ => onSlot_of_lt hi,
    fun st occ cancel cpend ev en hsig hen hbreach => ?_⟩
  rw [← slotOp_of_breach hen hbreach]
  exact performs_slotOp hi hsig

end Sys2Proof.Machine
end

section
/-!
The handshakes of a cycle (R135): which table raises the handoff, delivery and acceptance signals, and what each takes.
-/
namespace Sys2Proof.Machine

/-! ## Which table writes them -/

/-- From `s` to `s'` only what the operations of table `t` raise has changed, of the handoffs (R237), the delivery vector
(R251) and the acceptances (R275). -/
structure RaisesOnly (t : Table) (s s' : State) : Prop where
  fire : t ≠ .ar → s'.wires.fire = s.wires.fire
  respHit : t ≠ .rs → s'.wires.respHit = s.wires.respHit
  wbFire : t ≠ .wo → t ≠ .wu → s'.wires.wbFire = s.wires.wbFire

theorem handoff_wires (s : State) (g : Nat) (r : Bool) :
    (s.handoff g r).wires = { s.wires with fire := if r then s.wires.fire.set g true else s.wires.fire } := by
  cases r <;> simp [State.handoff]

theorem drainOrd_wires (s : State) (o : Nat) (r : Bool) :
    (s.drainOrd o r).wires = { s.wires with wbFire := if r then s.wires.wbFire.set o true else s.wires.wbFire } := by
  cases r <;> simp [State.drainOrd]

theorem drainUn_wires (s : State) (j u : Nat) (r : Bool) :
    (s.drainUn j u r).wires = { s.wires with wbFire := if r then s.wires.wbFire.set u true else s.wires.wbFire } := by
  cases r <;> simp [State.drainUn]

/-- Every operation raises only what its table raises. -/
theorem exec_raisesOnly {i : Instr} {s s' : State} (h : exec i s = .next s') : RaisesOnly (encode s.cfg i).1.table s s' := by
  cases i with
  | slotResubmitFault | slotEmpty | idleCancel | idleIssue | idleWait | reqCancel | reqFire | reqStall | respDiscardNow
  | respDiscardPending | respCapture | respMarkCancel | respWait | wbCancel | wbFire | wbHold | slotInvariantFault
  | respDeliver | szLb | szLh | szLw | szLd | szLbu | szLhu | szLwu | szRsv | beRead =>
    obtain ⟨-, rfl⟩ := onSlot_eq_next.mp h
    constructor <;> simp [encode, State.freeSlot]
  | subBad | subCapture | subNone | admNone | admBadClass | admFlushed | admExc | admReplay | admUntracked | admEnqOrd
  | admEnqUnord | allocReject | allocNone =>
    obtain ⟨-, rfl⟩ := onLane_eq_next.mp h
    constructor <;> simp
  | wbUnNone =>
    obtain ⟨-, rfl⟩ := onPort_eq_next.mp h
    constructor <;> simp
  | slotEnqWrite | allocGrant =>
    simp only [exec, execSlotEnqWrite, execAllocGrant] at h
    split at h
    · obtain ⟨g, -, rfl⟩ := onChoice_eq_next.mp h
      constructor <;> simp
    · cases h
  | arbOrdMultiFault | arbOrdFire | arbOrdStall | arbUnordFire | arbUnordStall =>
    obtain ⟨g, -, rfl⟩ := onChoice_eq_next.mp h
    constructor <;> simp [encode, handoff_wires]
  | wbOrdMultiFault | wbOrdFire | wbOrdHold =>
    obtain ⟨o, -, rfl⟩ := onChoice_eq_next.mp h
    constructor <;> simp [encode, drainOrd_wires]
  | wbUnFire | wbUnHold =>
    simp only [exec, execWbUnFire, execWbUnHold] at h
    split at h
    · obtain ⟨u, -, rfl⟩ := onChoice_eq_next.mp h
      constructor <;> simp [encode, drainUn_wires]
    · cases h
  | faultReport | rbArm =>
    obtain ⟨g, -, rfl⟩ := onChoice_eq_next.mp h
    constructor <;> simp [State.armRb]
  | rbTieFault =>
    obtain ⟨e, -, rfl⟩ := onChoice_eq_next.mp h
    dsimp only
    split <;> constructor <;> simp [State.armRb, State.disarmRb]
  | arbIdle | respStale | respNone | wbOrdNone | faultNone | rbNone | rbSuppress =>
    cases h
    constructor <;> simp [encode, State.disarmRb]

theorem exec_decoded_raisesOnly {s s' : State} {x : Site} {w : Nat} {i : Instr} (hd : decode s.cfg x w = .ok i)
    (he : exec i s = .next s') : RaisesOnly x.table s s' :=
  encode_table_of_decode hd ▸ exec_raisesOnly he

/-! ## What every point of a cycle sees alike -/

section
variable {s m : State}

theorem cancelNow_of_view (h : SameView s m) (i : Nat) : cancelNow m i = cancelNow s i := by
  obtain ⟨hcfg, -, hregs, hinp, -⟩ := h
  simp only [cancelNow, State.slot, hcfg, hregs, hinp]

theorem elig_of_view (h : SameView s m) (i : Nat) : elig m i = elig s i := by
  obtain ⟨-, -, hregs, -⟩ := h
  simp [elig, State.slot, hregs]

theorem ordWb_of_view (h : SameView s m) : ordWb m = ordWb s := by
  funext i
  have ⟨_, _, hregs, _⟩ := h
  simp [ordWb, wbv, cancelNow_of_view h, State.slot, hregs]

theorem unWbOn_of_view (h : SameView s m) (j : Nat) : unWbOn m j = unWbOn s j := by
  funext i
  have ⟨hcfg, _, hregs, _⟩ := h
  simp [unWbOn, unWb, wbv, cancelNow_of_view h, State.slot, hcfg, hregs]

theorem ordOffer_of_view (h : SameView s m) : ordOffer m = ordOffer s := by
  rw [ordOffer, ordOffer, ordWb_of_view h, h.1]

theorem unOffer_of_view (h : SameView s m) (j : Nat) : unOffer m j = unOffer s j := by
  rw [unOffer, unOffer, unWbOn_of_view h, h.1]

end

/-! ## What raises them -/

theorem tableOp_arbiter (s : State) (k : Nat) :
    tableOp s.cfg ⟨.ar, k⟩ (selector s ⟨.ar, k⟩) =
      if anyOrd s then
        if ordMulti s then .arbOrdMultiFault (anyUn s) s.inp.beReqReady
        else if s.inp.beReqReady then .arbOrdFire (anyUn s) else .arbOrdStall (anyUn s)
      else if anyUn s then if s.inp.beReqReady then .arbUnordFire (ordMulti s) else .arbUnordStall (ordMulti s)
      else .arbIdle s.inp.beReqReady (ordMulti s) :=
  decodeArbiter_arWord ..

theorem tableOp_response (s : State) (k : Nat) :
    tableOp s.cfg ⟨.rs, k⟩ (selector s ⟨.rs, k⟩) =
      if s.inp.resp.valid then if awaiting s then .respDeliver else .respStale else .respNone (awaiting s) :=
  decodeResponse_rsWord ..

theorem tableOp_wbOrd (s : State) (k : Nat) :
    tableOp s.cfg ⟨.wo, k⟩ (selector s ⟨.wo, k⟩) =
      if ordWbMulti s then .wbOrdMultiFault (ordWbAny s) s.inp.wbOrdReady
      else if ordWbAny s then if s.inp.wbOrdReady then .wbOrdFire else .wbOrdHold else .wbOrdNone s.inp.wbOrdReady :=
  decodeWbOrd_woWord ..

theorem tableOp_wbUnord (s : State) (j : Nat) :
    tableOp s.cfg ⟨.wu, j⟩ (selector s ⟨.wu, j⟩) =
      if unAny s j then if unReady s j then .wbUnFire j else .wbUnHold j else .wbUnNone j (unReady s j) :=
  decodeWbUnord_wuWord ..

/-- The arbiter hands a slot off only to a ready channel (R237). -/
theorem exec_arbiter_fire {s s' : State} {k : Nat} (h : exec (tableOp s.cfg ⟨.ar, k⟩ (selector s ⟨.ar, k⟩)) s = .next s') :
    s'.wires.fire = s.wires.fire ∨ s.inp.beReqReady = true := by
  cases hready : s.inp.beReqReady with
  | true => exact .inr rfl
  | false =>
    refine .inl ?_
    simp only [tableOp_arbiter, hready, Bool.false_eq_true, if_false] at h
    split_ifs at h
    · obtain ⟨g, -, rfl⟩ := onChoice_eq_next.mp h
      simp [handoff_wires]
    · obtain ⟨g, -, rfl⟩ := onChoice_eq_next.mp h
      simp [handoff_wires]
    · obtain ⟨g, -, rfl⟩ := onChoice_eq_next.mp h
      simp [handoff_wires]
    · cases h
      rfl

/-- The ordered port's consumer accepts only the slot that the port offers (R260, R275). -/
theorem exec_wbOrd_wbFire {s s' : State} {k : Nat} (h : exec (tableOp s.cfg ⟨.wo, k⟩ (selector s ⟨.wo, k⟩)) s = .next s') :
    s'.wires.wbFire = s.wires.wbFire ∨
      s.inp.wbOrdReady = true ∧ ∃ o, ordOffer s = some o ∧ s'.wires.wbFire = s.wires.wbFire.set o true := by
  rw [tableOp_wbOrd] at h
  split_ifs at h with hmulti hany hready
  · obtain ⟨o, ho, rfl⟩ := onChoice_eq_next.mp h
    cases hready : s.inp.wbOrdReady with
    | true => exact .inr ⟨rfl, o, ho, by simp [drainOrd_wires]⟩
    | false => exact .inl (by simp [drainOrd_wires])
  · obtain ⟨o, ho, rfl⟩ := onChoice_eq_next.mp h
    exact .inr ⟨hready, o, ho, by simp [drainOrd_wires]⟩
  · obtain ⟨o, -, rfl⟩ := onChoice_eq_next.mp h
    exact .inl (by simp [drainOrd_wires])
  · cases h
    exact .inl rfl

/-- An unordered port's consumer accepts only the slot that the port offers (R263, R275). -/
theorem exec_wbUnord_wbFire {s s' : State} {j : Nat} (h : exec (tableOp s.cfg ⟨.wu, j⟩ (selector s ⟨.wu, j⟩)) s = .next s') :
    s'.wires.wbFire = s.wires.wbFire ∨
      unReady s j = true ∧ ∃ u, unOffer s j = some u ∧ s'.wires.wbFire = s.wires.wbFire.set u true := by
  rw [tableOp_wbUnord] at h
  split_ifs at h with hany hready
  · simp only [exec, execWbUnFire] at h
    split at h
    · obtain ⟨u, hu, rfl⟩ := onChoice_eq_next.mp h
      exact .inr ⟨hready, u, hu, by simp [drainUn_wires]⟩
    · cases h
  · simp only [exec, execWbUnHold] at h
    split at h
    · obtain ⟨u, -, rfl⟩ := onChoice_eq_next.mp h
      exact .inl (by simp [drainUn_wires])
    · cases h
  · obtain ⟨-, rfl⟩ := onPort_eq_next.mp h
    exact .inl rfl

theorem awaiting_iff {s : State} :
    awaiting s = true ↔ s.inp.resp.tag < s.cfg.n ∧ (s.slot s.inp.resp.tag).st = .resp := by
  simp only [awaiting, Bool.and_eq_true, decide_eq_true_eq]

/-- The router delivers a response to the slot that its tag names, if that slot awaits one, and to no other (R252 to
R254). -/
theorem exec_response_respHit {s s' : State} {k i : Nat} (hi : i < s.cfg.n)
    (h : exec (tableOp s.cfg ⟨.rs, k⟩ (selector s ⟨.rs, k⟩)) s = .next s') :
    respHit s' i = true ↔ s.inp.resp.valid = true ∧ s.inp.resp.tag = i ∧ (s.slot i).st = .resp := by
  rw [tableOp_response] at h
  split_ifs at h with hvalid hawait
  · obtain ⟨-, rfl⟩ := onSlot_eq_next.mp h
    obtain ⟨-, hst⟩ := awaiting_iff.mp hawait
    by_cases htag : s.inp.resp.tag = i
    · subst htag
      simp [respHit, hi, hvalid, hst]
    · simp [respHit, htag]
  · cases h
    have hnot : ¬(s.inp.resp.tag = i ∧ (s.slot i).st = .resp) := by
      rintro ⟨rfl, hst⟩
      exact hawait (awaiting_iff.mpr ⟨hi, hst⟩)
    simp [respHit, hnot]
  · cases h
    simp [respHit, hvalid]

/-! ## Over a cycle -/

/-- A property that does not look at the trace is kept by a run of components, if each keeps it: the operation that its
table's decoder picks, which sees the start-of-cycle view and writes and raises only what its table does. -/
theorem runSites_keeps_framed {P : State → Prop} {xs : List Site} {a m : State}
    (htrace : ∀ m tr, P m → P { m with trace := tr })
    (hexec : ∀ x, x ∈ xs → ∀ m m', SameView a m → P m → exec (tableOp m.cfg x (selector m x)) m = .next m' →
      WritesOnly x.table m m' → RaisesOnly x.table m m' → P m')
    (hp : P a) (h : runSites xs a = .next m) : P m := by
  suffices hboth : SameView a m ∧ P m from hboth.2
  refine runSites_keeps (P := fun m => SameView a m ∧ P m) (fun x hx m m' ⟨hview, hm⟩ hr => ?_)
    ⟨by simp [SameView], hp⟩ h
  obtain ⟨h1, h2, h3, h4, h5, h6⟩ := hview
  obtain ⟨g1, g2, g3, g4, g5, g6⟩ := runSite_view hr
  refine ⟨⟨g1.trans h1, g2.trans h2, g3.trans h3, g4.trans h4, g5.trans h5, g6.trans h6⟩, ?_⟩
  rcases runSite_eq_next.mp hr with ⟨-, rfl⟩ | ⟨-, i, hd, he⟩
  · exact hm
  · have hwrites := exec_decoded_writesOnly (s := m.noting x) hd he
    have hraises := exec_decoded_raisesOnly (s := m.noting x) hd he
    obtain ⟨-, rfl⟩ := eq_tableOp_of_decode hd
    exact hexec x hx (m.noting x) m' ⟨h1, h2, h3, h4, h5, h6⟩ (htrace _ _ hm) he hwrites hraises

/-- A slot is handed off in a cycle only if the channel is ready (R237). -/
theorem beReqReady_of_fire {s m : State} {xs : List Site} {i : Nat} (h : runSites xs (sample s) = .next m)
    (hi : fire m i = true) : (nextInput s).beReqReady = true := by
  refine runSites_keeps_framed (P := fun m => fire m i = true → (nextInput s).beReqReady = true) (fun _ _ hm => hm)
    (fun x _ m m' hview hm he _ hraises hi => ?_) (fun hi => by simp [fire, Wires.idle] at hi) h hi
  by_cases ht : x.table = .ar
  · obtain ⟨t, k⟩ := x
    subst ht
    rcases exec_arbiter_fire he with hold | hready
    · exact hm (by rwa [fire, hold] at hi)
    · obtain ⟨-, -, -, hinp, -⟩ := hview
      rwa [hinp] at hready
  · exact hm (by rwa [fire, hraises.fire ht] at hi)

/-- Slot `i` is offered by a port whose consumer is ready (R275). -/
def Accepted (s : State) (i : Nat) : Prop :=
  s.inp.wbOrdReady = true ∧ ordOffer s = some i ∨ ∃ j, unReady s j = true ∧ unOffer s j = some i

theorem Accepted.of_view {a m : State} {i : Nat} (hview : SameView a m) (h : Accepted m i) : Accepted a i := by
  have ⟨_, _, _, hinp, _⟩ := hview
  simpa only [Accepted, unReady, hinp, ordOffer_of_view hview, unOffer_of_view hview] using h

/-- A signal that is 1 after one was raised was 1 before or is the raised one. -/
theorem getD_set_true {l : List Bool} {k i : Nat} (h : (l.set k true).getD i false = true) : i = k ∨ l.getD i false = true := by
  rcases getD_set_cases l k i true false with ⟨rfl, -⟩ | hold
  · exact .inl rfl
  · exact .inr (hold ▸ h)

/-- A slot's Result is accepted in a cycle only from a port that offers it to a ready consumer (R275). -/
theorem accepted_of_wbFire {s m : State} {xs : List Site} {i : Nat} (h : runSites xs (sample s) = .next m)
    (hi : wbFire m i = true) : Accepted (sample s) i := by
  refine runSites_keeps_framed (P := fun m => wbFire m i = true → Accepted (sample s) i) (fun _ _ hm => hm)
    (fun x _ m m' hview hm he _ hraises hi => ?_) (fun hi => by simp [wbFire, Wires.idle] at hi) h hi
  obtain ⟨t, j⟩ := x
  by_cases hwo : t = .wo
  · subst hwo
    rcases exec_wbOrd_wbFire he with hold | ⟨hready, o, ho, hset⟩
    · exact hm (by rwa [wbFire, hold] at hi)
    · rw [wbFire, hset] at hi
      rcases getD_set_true hi with rfl | hbefore
      · exact Accepted.of_view hview (.inl ⟨hready, ho⟩)
      · exact hm hbefore
  by_cases hwu : t = .wu
  · subst hwu
    rcases exec_wbUnord_wbFire he with hold | ⟨hready, u, hu, hset⟩
    · exact hm (by rwa [wbFire, hold] at hi)
    · rw [wbFire, hset] at hi
      rcases getD_set_true hi with rfl | hbefore
      · exact Accepted.of_view hview (.inr ⟨j, hready, hu⟩)
      · exact hm hbefore
  · exact hm (by rwa [wbFire, hraises.wbFire hwo hwu] at hi)

/-- Only the router writes the delivery vector. -/
theorem respHit_kept {s s' : State} {xs : List Site} (hxs : ∀ x ∈ xs, x.table ≠ .rs) (h : runSites xs s = .next s') :
    s'.wires.respHit = s.wires.respHit :=
  runSites_keeps_framed (P := fun m => m.wires.respHit = s.wires.respHit) (fun _ _ hm => hm)
    (fun x hx _ _ _ hm _ _ hraises => (hraises.respHit (hxs x hx)).trans hm) rfl h

/-- After a cycle's components a slot has been delivered the response exactly if the response names it and it awaits one
(R251). -/
theorem respHit_after_cycle {s m : State} {i : Nat} (hi : i < s.cfg.n)
    (h : runSites (schedule s.cfg) (sample s) = .next m) :
    respHit m i = true ↔
      (nextInput s).resp.valid = true ∧ (nextInput s).resp.tag = i ∧ (s.slot i).st = .resp := by
  obtain ⟨pre, post, p, q, hsplit, -, hpost, hp, hq, hm⟩ := exists_turn (x := ⟨.rs, 0⟩) Nat.one_pos h
  have hlast : ∀ x ∈ post, x.table ≠ .rs := by
    rintro ⟨t, k⟩ hx rfl
    have hk : k < 1 := mem_schedule.mp (hsplit ▸ List.mem_append_right pre (List.mem_cons_of_mem _ hx))
    obtain rfl : k = 0 := by omega
    exact hpost hx
  have hview := runSites_view hp
  have hslot := sameView_slot hview i
  obtain ⟨hcfg, -, -, hinp, -⟩ := hview
  have hdelivered := exec_response_respHit (s := p.noting ⟨.rs, 0⟩) (i := i) (hcfg ▸ hi) (exec_of_active rfl hq).2
  rw [respHit, respHit_kept hlast hm, ← sample_inp, ← hinp, ← hslot]
  exact hdelivered

end Sys2Proof.Machine
end

section
/-!
Each lane is granted another index (R195, R198): a draw gives no index twice, and the lanes that are granted one draw at
different offsets.
-/
namespace Sys2Proof.Machine

theorem drawOrder_nodup (k : Nat) (draw : List Nat) {l : List Nat} (h : l.Nodup) : (drawOrder k draw l).Nodup := by
  induction k generalizing draw l with
  | zero => simp [drawOrder]
  | succ k ih =>
    cases l with
    | nil => simp [drawOrder]
    | cons x xs =>
      have hidx : draw.headD 0 % (xs.length + 1) < (x :: xs).length := Nat.mod_lt _ (Nat.succ_pos _)
      obtain ⟨hnew, hrest⟩ := List.nodup_cons.mp ((List.getElem_cons_eraseIdx_perm hidx).nodup_iff.mpr h)
      refine List.nodup_cons.mpr ⟨?_, ih _ hrest⟩
      rw [List.getD_eq_getElem _ _ hidx]
      exact fun hmem => hnew (drawOrder_subset _ _ _ hmem)

/-- A draw gives no index twice (R195). -/
theorem pick_injective {draw : List Nat} {pool : List Bool} {k l i : Nat} (hk : pick draw pool k = some i)
    (hl : pick draw pool l = some i) : k = l := by
  have hnodup : (drawOrder (freeList pool).length draw (freeList pool)).Nodup :=
    drawOrder_nodup _ _ (List.nodup_range.filter _)
  obtain ⟨hlt, -⟩ := List.getElem?_eq_some_iff.mp hk
  exact (List.getElem?_inj hlt hnodup).mp (hk.trans hl.symm)

theorem countBelow_le {a b : Nat} (h : a ≤ b) (p : Nat → Bool) : countBelow a p ≤ countBelow b p :=
  (List.range_sublist.mpr h).countP_le

/-- A requesting lane moves every higher lane's offset on (R190). -/
theorem allocOff_lt {s : State} {u w : Nat} (huw : u < w) (h : enqReq s u = true) : allocOff s u < allocOff s w := by
  have hstep : allocOff s (u + 1) = allocOff s u + 1 := by simp [allocOff, countBelow_succ, h]
  have hle : allocOff s (u + 1) ≤ allocOff s w := countBelow_le huw _
  omega

/-- Every index granted so far is the one drawn at its lane's offset, for a lane that requests one (R192). -/
def GrantsDrawn (m : State) : Prop :=
  ∀ w i, enqIdx m w = some i → enqReq m w = true ∧ pick m.inp.draw m.regs.pool (allocOff m w) = some i

theorem GrantsDrawn.injective {m : State} (h : GrantsDrawn m) {u w i : Nat} (hu : enqIdx m u = some i)
    (hw : enqIdx m w = some i) : u = w := by
  obtain ⟨hureq, hupick⟩ := h u i hu
  obtain ⟨hwreq, hwpick⟩ := h w i hw
  have hoff := pick_injective hupick hwpick
  rcases Nat.lt_trichotomy u w with hlt | heq | hgt
  · exact absurd hoff (allocOff_lt hlt hureq).ne
  · exact heq
  · exact absurd hoff (allocOff_lt hgt hwreq).ne'

/-- Once the enqueue requests stand, every operation leaves the grants as drawn. -/
theorem grantsDrawn_exec {m m' : State} {x : Site} (hx : x.table ≠ .adm) (hm : GrantsDrawn m)
    (he : exec (tableOp m.cfg x (selector m x)) m = .next m') (hwrites : WritesOnly x.table m m') : GrantsDrawn m' := by
  intro w i hi
  obtain ⟨-, -, hregs, hinp, -⟩ := exec_snapshot he
  have hreq : enqReq m' = enqReq m := by
    funext u
    rw [enqReq, enqReq, hwrites.requests hx]
  rw [hregs, hinp, allocOff, hreq]
  by_cases ht : x.table = .al
  · obtain ⟨t, l⟩ := x
    subst ht
    rw [exec_alloc_eq he, enqIdx, State.driveEnq_out] at hi
    rcases getD_set_cases m.out.enq l w _ none with ⟨hlw, hnew⟩ | hold
    · rw [hnew] at hi
      subst hlw
      split at hi
      next hgranted => exact ⟨(Bool.and_eq_true_iff.mp hgranted).1, hi⟩
      next => cases hi
    · rw [hold] at hi
      exact hm w i hi
  · exact hm w i (by rwa [enqIdx, hwrites.grants ht] at hi)

/-- The enqueue requests stand before the allocator's turn (R135). -/
theorem schedule_eq_admission_append (c : Config) :
    schedule c = (phaseOrder.take 2).flatMap (sitesOf c) ++ (phaseOrder.drop 2).flatMap (sitesOf c) := by
  rw [← List.flatMap_append, List.take_append_drop, schedule]

theorem table_ne_of_mem_flatMap {c : Config} {ts : List Table} {t : Table} {x : Site} (ht : t ∉ ts)
    (hx : x ∈ ts.flatMap (sitesOf c)) : x.table ≠ t := by
  obtain ⟨u, hu, hxu⟩ := List.mem_flatMap.mp hx
  rw [(mem_sitesOf.mp hxu).1]
  rintro rfl
  exact ht hu

theorem grantsDrawn_after_cycle {s m : State} (h : runSites (schedule s.cfg) (sample s) = .next m) : GrantsDrawn m := by
  rw [schedule_eq_admission_append, runSites_append_eq_next] at h
  obtain ⟨p, hp, hm⟩ := h
  have hnone : p.out.enq = (outputBase s).enq :=
    runSites_keeps_framed (P := fun m => m.out.enq = (outputBase s).enq) (fun _ _ hm => hm)
      (fun x hx _ _ _ hm _ hwrites _ => (hwrites.grants (table_ne_of_mem_flatMap (by decide) hx)).trans hm) rfl hp
  refine runSites_keeps_framed (P := GrantsDrawn) (fun _ _ hm => hm)
    (fun x hx _ _ _ hm he hwrites _ => grantsDrawn_exec (table_ne_of_mem_flatMap (by decide) hx) hm he hwrites) ?_ hm
  intro w i hi
  simp [enqIdx, hnone, outputBase] at hi

end Sys2Proof.Machine
end

section
/-!
A slot over a cycle (R150 to R171, R319): its own turn alone writes it and its free signal, and makes of it what `nextSlot`
says of the signals (O48); so the pool moves with the grants and the frees (O40), and a cancelled slot whose response is out
frees when the response comes (O49).
-/
namespace Sys2Proof.Machine

/-! ## The cases of the next-state function -/

section
variable {sl : Slot} {granted : Option Request} {cancel elig fired wbFired : Bool} {answer : Option (Beat × Bool)}

theorem nextSlot_empty_none (hocc : sl.occ = false) : nextSlot sl none cancel elig fired wbFired answer = sl := by
  simp [nextSlot, hocc]

theorem nextSlot_empty_some {r : Request} (hocc : sl.occ = false) :
    nextSlot sl (some r) cancel elig fired wbFired answer =
      { sl with occ := true, st := .idle, req := r, cpend := false } := by
  simp [nextSlot, hocc]

theorem nextSlot_idle (hocc : sl.occ = true) (hst : sl.st = .idle) :
    nextSlot sl granted cancel elig fired wbFired answer =
      if cancel then { sl with occ := false } else if elig then { sl with st := .req } else sl := by
  simp [nextSlot, hocc, hst]

theorem nextSlot_req (hocc : sl.occ = true) (hst : sl.st = .req) :
    nextSlot sl granted cancel elig fired wbFired answer =
      if cancel then { sl with occ := false, st := .idle } else if fired then { sl with st := .resp } else sl := by
  simp [nextSlot, hocc, hst]

theorem nextSlot_resp_none (hocc : sl.occ = true) (hst : sl.st = .resp) :
    nextSlot sl granted cancel elig fired wbFired none = { sl with cpend := sl.cpend || cancel } := by
  simp [nextSlot, hocc, hst]

theorem nextSlot_resp_some {d : Beat} {e : Bool} (hocc : sl.occ = true) (hst : sl.st = .resp) :
    nextSlot sl granted cancel elig fired wbFired (some (d, e)) =
      if cancel || sl.cpend then { sl with occ := false, st := .idle, cpend := false }
      else { sl with st := .wb, rdata := d, rerr := e } := by
  simp [nextSlot, hocc, hst]

theorem nextSlot_wb (hocc : sl.occ = true) (hst : sl.st = .wb) :
    nextSlot sl granted cancel elig fired wbFired answer =
      if cancel || wbFired then { sl with occ := false, st := .idle } else sl := by
  simp [nextSlot, hocc, hst]

end

/-! ## A slot's turn -/

/-- The Request that slot `k` is granted in this cycle, if any (R150, R151). -/
def grantedReq (s : State) (k : Nat) : Option Request := (laneOf s k).map fun w => (s.stage w).c.toRequest

/-- What the response of this cycle brings to slot `k`, if its tag names the slot (R251). -/
def answerTo (s : State) (k : Nat) : Option (Beat × Bool) :=
  if s.inp.resp.valid ∧ s.inp.resp.tag = k then some (s.inp.resp.data, s.inp.resp.err) else none

/-- Slot `k` at the next boundary, by the signals at this point of the cycle. -/
def slotNext (s : State) (k : Nat) : Slot :=
  nextSlot (s.slot k) (grantedReq s k) (cancelNow s k) (elig s k) (fire s k) (wbFire s k) (answerTo s k)

/-- From `s` to `s'` slot `k` is made its next value, and its free signal is raised if this empties it (R168). -/
def TakesNext (k : Nat) (s s' : State) : Prop :=
  ∃ f freed, SlotWrite k s s' f freed ∧ f (s.slot k) = slotNext s k ∧ freed = ((s.slot k).occ && !(slotNext s k).occ)

section
variable {s s' : State} {k : Nat} {f : Slot → Slot}

theorem takesNext_of_same (h : onSlot s k s = .next s') (hf : slotNext s k = s.slot k) : TakesNext k s s' :=
  ⟨id, false, onSlot_slotWrite_of_same h ⟨rfl, rfl⟩, hf.symm, by simp [hf]⟩

theorem takesNext_of_writeSlot (h : onSlot s k (s.writeSlot k f) = .next s') (hf : slotNext s k = f (s.slot k))
    (hocc : (f (s.slot k)).occ = true) : TakesNext k s s' :=
  ⟨f, false, onSlot_slotWrite_of_writeSlot h, hf.symm, by simp [hf, hocc]⟩

theorem takesNext_of_freeSlot (h : onSlot s k (s.freeSlot k f) = .next s') (hf : slotNext s k = f (s.slot k))
    (hocc : (s.slot k).occ = true) (hfreed : (f (s.slot k)).occ = false) : TakesNext k s s' :=
  ⟨f, true, onSlot_slotWrite_of_freeSlot h, hf.symm, by simp [hf, hocc, hfreed]⟩

/-- An empty slot takes the Request it is granted, or stays (R151, R152). -/
theorem takesNext_empty (hs : SlotSound (s.slot k)) (hocc : (s.slot k).occ = false)
    (h : exec (slotOp k (s.slot k).st false (cancelNow s k) (s.slot k).cpend (progress s k) (enqEn s k)) s = .next s') :
    TakesNext k s s' := by
  have hst := idle_of_empty hs hocc
  have hcpend := not_pending_of_not_resp hs (by simp [hst])
  have hcancel : cancelNow s k = false := by simp [cancelNow, hocc]
  simp only [slotOp, hst, hcancel, hcpend, and_self, if_true, enqEn] at h
  cases hlane : laneOf s k with
  | none =>
    rw [hlane] at h
    refine takesNext_of_same h ?_
    rw [slotNext, grantedReq, hlane, Option.map_none, nextSlot_empty_none hocc]
  | some w =>
    rw [hlane] at h
    simp only [Option.isSome_some, exec, execSlotEnqWrite, hlane] at h
    refine takesNext_of_writeSlot h ?_ rfl
    rw [slotNext, grantedReq, hlane, Option.map_some, nextSlot_empty_some hocc]

/-- An occupied slot is cancelled before it progresses (R154 to R167, R319). -/
theorem takesNext_occupied (hs : SlotSound (s.slot k)) (hocc : (s.slot k).occ = true)
    (hhit : (s.slot k).st = .resp → (respHit s k = true ↔ s.inp.resp.valid = true ∧ s.inp.resp.tag = k))
    (h : exec (slotOp k (s.slot k).st true (cancelNow s k) (s.slot k).cpend (progress s k) false) s = .next s') :
    TakesNext k s s' := by
  cases hst : (s.slot k).st with
  | idle =>
    have hnext : slotNext s k = _ := nextSlot_idle hocc hst
    simp only [slotOp, progress, hst, not_pending_of_not_resp hs (by simp [hst]), Bool.false_eq_true, if_false] at h
    split_ifs at h with hcancel hev
    · exact takesNext_of_freeSlot h (hnext.trans (if_pos hcancel)) hocc rfl
    · exact takesNext_of_writeSlot h (hnext.trans ((if_neg hcancel).trans (if_pos hev))) hocc
    · exact takesNext_of_same h (hnext.trans ((if_neg hcancel).trans (if_neg hev)))
  | req =>
    have hnext : slotNext s k = _ := nextSlot_req hocc hst
    simp only [slotOp, progress, hst, not_pending_of_not_resp hs (by simp [hst]), Bool.false_eq_true, if_false] at h
    split_ifs at h with hcancel hev
    · exact takesNext_of_freeSlot h (hnext.trans (if_pos hcancel)) hocc rfl
    · exact takesNext_of_writeSlot h (hnext.trans ((if_neg hcancel).trans (if_pos hev))) hocc
    · exact takesNext_of_same h (hnext.trans ((if_neg hcancel).trans (if_neg hev)))
  | resp =>
    have hhit := hhit hst
    simp only [slotOp, progress, hst] at h
    by_cases hev : respHit s k = true
    · have hanswer : answerTo s k = some (s.inp.resp.data, s.inp.resp.err) := if_pos (hhit.mp hev)
      have hnext : slotNext s k = _ := (congrArg _ hanswer).trans (nextSlot_resp_some hocc hst)
      rw [if_pos hev] at h
      split_ifs at h with hcancel hcpend
      · exact takesNext_of_freeSlot h (hnext.trans (if_pos (by simp [hcancel]))) hocc rfl
      · exact takesNext_of_freeSlot h (hnext.trans (if_pos (by simp [hcpend]))) hocc rfl
      · exact takesNext_of_writeSlot h (hnext.trans (if_neg (by simp [hcancel, hcpend]))) hocc
    · have hanswer : answerTo s k = none := if_neg (mt hhit.mpr hev)
      have hnext : slotNext s k = _ := (congrArg _ hanswer).trans (nextSlot_resp_none hocc hst)
      rw [if_neg hev] at h
      split_ifs at h with hcancel
      · exact takesNext_of_writeSlot h (hnext.trans (by simp [hcancel])) hocc
      · exact takesNext_of_same h (hnext.trans (by simp [hcancel]))
  | wb =>
    have hnext : slotNext s k = _ := nextSlot_wb hocc hst
    simp only [slotOp, progress, hst, not_pending_of_not_resp hs (by simp [hst]), Bool.false_eq_true, if_false] at h
    split_ifs at h with hcancel hev
    · exact takesNext_of_freeSlot h (hnext.trans (if_pos (by simp [hcancel]))) hocc rfl
    · exact takesNext_of_freeSlot h (hnext.trans (if_pos (by simp [hev]))) hocc rfl
    · exact takesNext_of_same h (hnext.trans (if_neg (by simp [hcancel, hev])))

/-- A slot that was untouched before its turn holds its next value after it, and its free signal says whether it freed. -/
theorem TakesNext.entries (h : TakesNext k s s') (hslots : k < s.nxt.slots.length) (hfree : k < s.wires.free.length)
    (hold : s.nxt.slots.getD k Slot.reset = s.slot k) (hlow : s.wires.free.getD k false = false) :
    s'.nxt.slots.getD k Slot.reset = slotNext s k
      ∧ s'.wires.free.getD k false = ((s.slot k).occ && !(slotNext s k).occ) := by
  obtain ⟨f, freed, ⟨hf, hset⟩, hnext, rfl⟩ := h
  refine ⟨by rw [hf, getD_modify_self hslots, hold, hnext], ?_⟩
  rw [hset]
  split
  next hraised => rw [getD_set_self hfree, hraised]
  next hnot => rw [hlow, Bool.eq_false_of_not_eq_true hnot]

/-- A sound slot that is granted only when it is empty takes its next value in its turn. -/
theorem takesNext_exec (hs : SlotSound (s.slot k)) (hen : enqEn s k = true → (s.slot k).occ = false)
    (hhit : (s.slot k).st = .resp → (respHit s k = true ↔ s.inp.resp.valid = true ∧ s.inp.resp.tag = k))
    (h : exec (tableOp s.cfg ⟨.ss, k⟩ (selector s ⟨.ss, k⟩)) s = .next s') : TakesNext k s s' := by
  rw [tableOp_slot] at h
  cases hocc : (s.slot k).occ with
  | false => exact takesNext_empty hs hocc (hocc ▸ h)
  | true =>
    have hnot : enqEn s k = false := by simpa [hocc] using hen
    rw [hocc, hnot] at h
    exact takesNext_occupied hs hocc hhit h

end

/-! ## The other components' turns -/

/-- An operation of a slot writes that slot, at most, and its free signal (R170). -/
theorem slotWrite_of_exec {i : Instr} {s s' : State} {k : Nat} (hk : (encode s.cfg i).1 = ⟨.ss, k⟩)
    (h : exec i s = .next s') : ∃ f freed, SlotWrite k s s' f freed := by
  cases i with
  | slotEmpty | idleWait | reqStall | respWait | wbHold | slotResubmitFault | slotInvariantFault =>
    cases hk
    exact ⟨_, _, onSlot_slotWrite_of_same h ⟨rfl, rfl⟩⟩
  | idleIssue | reqFire | respCapture | respMarkCancel =>
    cases hk
    exact ⟨_, _, onSlot_slotWrite_of_writeSlot h⟩
  | idleCancel | reqCancel | respDiscardNow | respDiscardPending | wbCancel | wbFire =>
    cases hk
    exact ⟨_, _, onSlot_slotWrite_of_freeSlot h⟩
  | slotEnqWrite =>
    cases hk
    simp only [exec, execSlotEnqWrite] at h
    split at h
    · obtain ⟨w, -, rfl⟩ := onChoice_eq_next.mp h
      exact ⟨_, false, rfl, rfl⟩
    · cases h
  | _ => cases hk

/-- From `s` to `s'` slot `i` and its free signal have not been written. -/
structure SlotSame (i : Nat) (s s' : State) : Prop where
  slotsLength : s'.nxt.slots.length = s.nxt.slots.length
  slot : s'.nxt.slots.getD i Slot.reset = s.nxt.slots.getD i Slot.reset
  freeLength : s'.wires.free.length = s.wires.free.length
  free : s'.wires.free.getD i false = s.wires.free.getD i false

theorem SlotSame.trans {i : Nat} {s m s' : State} (h : SlotSame i s m) (g : SlotSame i m s') : SlotSame i s s' :=
  ⟨g.slotsLength.trans h.slotsLength, g.slot.trans h.slot, g.freeLength.trans h.freeLength, g.free.trans h.free⟩

theorem slotSame_of_slotWrite {i k : Nat} {s s' : State} {f : Slot → Slot} {freed : Bool} (hki : k ≠ i)
    (h : SlotWrite k s s' f freed) : SlotSame i s s' := by
  obtain ⟨hf, hfree⟩ := h
  refine ⟨by rw [hf, List.length_modify], by rw [hf, getD_modify_ne _ hki], ?_, ?_⟩ <;> rw [hfree] <;> cases freed
  · rfl
  · exact List.length_set
  · rfl
  · exact getD_set_ne _ hki ..

/-- Only its own turn writes a slot. -/
theorem slotSame_of_not_mem {i : Nat} {s s' : State} {xs : List Site} (hxs : ⟨.ss, i⟩ ∉ xs)
    (h : runSites xs s = .next s') : SlotSame i s s' := by
  refine runSites_keeps_framed (P := SlotSame i s) (fun _ _ hm => ⟨hm.slotsLength, hm.slot, hm.freeLength, hm.free⟩)
    (fun x hx m m' _ hm he hwrites _ => hm.trans ?_) ⟨rfl, rfl, rfl, rfl⟩ h
  by_cases ht : x.table = .ss
  · obtain ⟨t, k⟩ := x
    subst ht
    have hki : k ≠ i := by
      rintro rfl
      exact hxs hx
    obtain ⟨f, freed, hwrite⟩ := slotWrite_of_exec (k := k) (by rw [tableOp_slot, encode_slotOp]) he
    exact slotSame_of_slotWrite hki hwrite
  · exact ⟨by rw [hwrites.slots ht], by rw [hwrites.slots ht], by rw [hwrites.free ht], by rw [hwrites.free ht]⟩

/-- What a slot's next value depends on: the start-of-cycle view, the grants and the handshakes. -/
structure SameSignals (s s' : State) : Prop where
  view : SameView s s'
  grants : s'.out.enq = s.out.enq
  fire : s'.wires.fire = s.wires.fire
  wbFire : s'.wires.wbFire = s.wires.wbFire
  respHit : s'.wires.respHit = s.wires.respHit

/-- The slots change none of the signals that their operations depend on (R170). -/
theorem sameSignals_of_slots {s s' : State} {xs : List Site} (hxs : ∀ x ∈ xs, x.table = .ss)
    (h : runSites xs s = .next s') : SameSignals s s' := by
  have hkept : s'.out.enq = s.out.enq ∧ s'.wires.fire = s.wires.fire ∧ s'.wires.wbFire = s.wires.wbFire
      ∧ s'.wires.respHit = s.wires.respHit := by
    refine runSites_keeps_framed
      (P := fun m => m.out.enq = s.out.enq ∧ m.wires.fire = s.wires.fire ∧ m.wires.wbFire = s.wires.wbFire
        ∧ m.wires.respHit = s.wires.respHit)
      (fun _ _ hm => hm) (fun x hx m m' _ ⟨hgrants, hfire, hwb, hhit⟩ _ hwrites hraises => ?_) ⟨rfl, rfl, rfl, rfl⟩ h
    rw [hxs x hx] at hwrites hraises
    exact ⟨(hwrites.grants nofun).trans hgrants, (hraises.fire nofun).trans hfire,
      (hraises.wbFire nofun nofun).trans hwb, (hraises.respHit nofun).trans hhit⟩
  obtain ⟨hgrants, hfire, hwb, hhit⟩ := hkept
  exact ⟨runSites_view h, hgrants, hfire, hwb, hhit⟩

theorem slotNext_of_sameSignals {s s' : State} (h : SameSignals s s') (k : Nat) : slotNext s' k = slotNext s k := by
  have ⟨hcfg, _, hregs, hinp, _⟩ := h.view
  simp only [slotNext, grantedReq, answerTo, laneOf, enqIdx, State.slot, State.stage, fire, wbFire, hcfg, hregs, hinp,
    h.grants, h.fire, h.wbFire, cancelNow_of_view h.view, elig_of_view h.view]

/-! ## The whole cycle -/

/-- After a slot only slots come (R135). -/
theorem pairwise_schedule (c : Config) : (schedule c).Pairwise fun x y => x.table = .ss → y.table = .ss := by
  rw [schedule_eq_append, List.pairwise_append]
  exact ⟨List.pairwise_of_forall_mem_list fun x hx _ _ hss => absurd hss (not_slot_of_mem_dropLast hx),
    List.pairwise_of_forall_mem_list fun _ _ y hy _ => (mem_sitesOf.mp hy).1,
    fun x hx _ _ hss => absurd hss (not_slot_of_mem_dropLast hx)⟩

/-- After a cycle's components every slot of a state of the invariant has taken its next value, and has freed exactly if
this emptied it. -/
theorem slot_after_cycle {s m : State} {i : Nat} (hinv : Invariant s) (hi : i < s.cfg.n)
    (h : runSites (schedule s.cfg) (sample s) = .next m) :
    (commit m).slot i = slotNext m i ∧ m.wires.free.getD i false = ((s.slot i).occ && !(slotNext m i).occ) := by
  have ⟨_, ⟨hlen, _, _⟩, _, _, hsound, _⟩ := hinv
  obtain ⟨pre, post, p, q, hsplit, hpre, hpost, hp, hq, hm⟩ := exists_turn (x := ⟨.ss, i⟩) hi h
  have hlater : ∀ x ∈ ⟨.ss, i⟩ :: post, x.table = .ss := by
    obtain ⟨-, hrest, -⟩ := List.pairwise_append.mp (hsplit ▸ pairwise_schedule s.cfg)
    exact List.forall_mem_cons.mpr ⟨rfl, fun x hx => (List.pairwise_cons.mp hrest).1 x hx rfl⟩
  have hsignals := sameSignals_of_slots hlater (runSites_cons_eq_next.mpr ⟨q, hq, hm⟩)
  have hview := runSites_view hp
  have hslot : p.slot i = s.slot i := sameView_slot hview i
  have hhit : (p.slot i).st = .resp → (respHit p i = true ↔ p.inp.resp.valid = true ∧ p.inp.resp.tag = i) := by
    intro hst
    have hdelivered := respHit_after_cycle hi h
    obtain ⟨-, -, -, hinp, -⟩ := hview
    rw [respHit, hsignals.respHit] at hdelivered
    rw [respHit, hdelivered, hinp, sample_inp, ← hslot]
    simp [hst]
  have hturn : TakesNext i p q := takesNext_exec (s := p.noting ⟨.ss, i⟩) (hslot ▸ hsound i hi)
    (fun hen => hslot ▸ empty_of_enqEn hinv hi hp hen) hhit (exec_of_active rfl hq).2
  have hbefore := slotSame_of_not_mem hpre hp
  have hafter := slotSame_of_not_mem hpost hm
  obtain ⟨hvalue, hfreed⟩ := hturn.entries (by rw [hbefore.slotsLength]; exact hlen ▸ hi)
    (by rw [hbefore.freeLength]; simpa [Wires.idle] using hi) (hbefore.slot.trans hslot.symm)
    (by rw [hbefore.free]; simp [Wires.idle])
  rw [slotNext_of_sameSignals hsignals, ← hslot]
  exact ⟨hafter.slot.trans hvalue, hafter.free.trans hfreed⟩

/-- Settles O48: the slot's next value, with the signals read at the end of the cycle; a slot is granted to one lane at
most, so what it is granted is that lane's Request. -/
theorem slotAfterCycle : Obligations.SlotAfterCycle := by
  intro s t hinv hstep i hi
  obtain ⟨m, hrun, rfl⟩ := step_eq_next.mp hstep
  have hview := runSites_view hrun
  have hdrawn := grantsDrawn_after_cycle hrun
  have hcfg : m.cfg = s.cfg := hview.1
  refine ⟨grantedReq m i, fun w hw hgrant => ?_, fun hnone => ?_, ?_⟩
  · have hlane : laneOf m i = some w := by
      refine laneOf_eq_some.mpr ⟨hcfg ▸ hw, decide_eq_true hgrant, fun u hu => decide_eq_false fun hother => ?_⟩
      exact hu.ne (hdrawn.injective hother hgrant)
    rw [grantedReq, hlane, Option.map_some, sameView_stage hview]
  · have hlane : laneOf m i = none := leastBelow_eq_none.mpr fun w hw => by simpa [enqIdx] using hnone w (hcfg ▸ hw)
    rw [grantedReq, hlane, Option.map_none]
  · have ⟨_, _, _, hinp, _⟩ := hview
    rw [(slot_after_cycle hinv hi hrun).1, slotNext, sameView_slot hview, cancelNow_of_view hview, elig_of_view hview,
      answerTo, hinp]
    rfl

/-- A slot has been granted exactly if some lane was given its index (R150). -/
theorem enqEn_iff {s : State} {i : Nat} : enqEn s i = true ↔ ∃ w, w < s.cfg.w ∧ s.out.enq.getD w none = some i := by
  rw [enqEn, laneOf, leastBelow_isSome, anyBelow_iff]
  simp [enqIdx]

/-- Settles O40: the boundary forms the pool from the old one, the grants and the free signals, and a free signal is raised
by the slot that empties. -/
theorem poolUpdate : Obligations.PoolUpdate := by
  intro s t hinv hstep i hi
  obtain ⟨m, hrun, rfl⟩ := step_eq_next.mp hstep
  have hgrant : enqEn m i = false ↔ ∀ w, w < s.cfg.w → m.out.enq.getD w none ≠ some i := by
    rw [← Bool.not_eq_true, enqEn_iff, (runSites_view hrun).1]
    simp
  obtain ⟨hslot, hfree⟩ := slot_after_cycle hinv hi hrun
  constructor
  · obtain ⟨hcfg, -, hregs, -⟩ := runSites_view hrun
    simp only [sample_cfg, sample_regs] at hcfg hregs
    rw [commit_out, commit_wires, ← hgrant]
    simp [boundary, nextPool, hcfg, hregs, hi, List.getD_eq_getElem?_getD]
  · rw [hslot, commit_wires, hfree]
    simp

/-- Settles O49: of the next value of a slot in `RESP`; the index is in the pool exactly when the slot is empty. -/
theorem deferredFree : Obligations.DeferredFree := by
  intro s t hinv hstep i hi hst hcancelled
  have ⟨_, _, _, _, hsound, _⟩ := hinv
  obtain ⟨hbusy, -, -⟩ := hsound i hi
  have hocc : (s.slot i).occ = true := hbusy (by simp [hst])
  obtain ⟨-, -, hpool, -⟩ := stepKeepsInvariant s t hinv hstep
  obtain ⟨-, -, -, -, -, -, hcfg, -⟩ := historyAndToken s t hstep
  obtain ⟨granted, -, -, hnext⟩ := slotAfterCycle s t hinv hstep i hi
  rw [hpool i (hcfg ▸ hi)]
  constructor
  · intro hwait
    rw [if_neg hwait, nextSlot_resp_none hocc hst] at hnext
    have hpend : ((s.slot i).cpend || cancelNow (sample s) i) = true := by simpa using hcancelled
    rw [hnext, hpend]
    exact ⟨rfl, by simp [hocc]⟩
  · intro hvalid htag
    have hdiscard : (cancelNow (sample s) i || (s.slot i).cpend) = true := by simpa using hcancelled.symm
    rw [if_pos ⟨hvalid, htag⟩, nextSlot_resp_some hocc hst, if_pos hdiscard] at hnext
    rw [hnext]
    exact ⟨rfl, rfl⟩

end Sys2Proof.Machine
end

section
/-!
Waiting (R349): a slot that waits for one of its reasons is after the cycle as it was, so it is after any number of such
cycles (O60).
-/
namespace Sys2Proof.Machine

/-! ## One cycle -/

/-- What a port offers to a ready consumer, for each of the two kinds of ports (R275). -/
theorem accepted_iff {s : State} {i : Nat} :
    Accepted s i ↔ (s.inp.wbOrdReady = true ∧ LeastIndex s.cfg.n (ordWb s) i) ∨
      (unReady s (i % (s.cfg.m - 1)) = true ∧ LeastIndex s.cfg.n (unWbOn s (i % (s.cfg.m - 1))) i) := by
  simp only [Accepted, ordOffer, unOffer, leastBelow_eq_some]
  refine or_congr_right ⟨?_, fun h => ⟨_, h⟩⟩
  rintro ⟨j, hready, hleast⟩
  have ⟨_, hon, _⟩ := hleast
  obtain ⟨-, -, -, rfl⟩ := unWbOn_iff.mp hon
  exact ⟨hready, hleast⟩

/-- A slot in `WB` that waits is accepted by no port (R349 (c), (d)). -/
theorem not_accepted {s : State} {i : Nat}
    (h : ((s.slot i).req.cls = .ord ∧ s.inp.wbOrdReady = false) ∨
      ((s.slot i).req.cls = .unord ∧
        (unReady s (i % (s.cfg.m - 1)) = false ∨ ∃ l, l < i ∧ unWbOn s (i % (s.cfg.m - 1)) l = true))) :
    ¬Accepted s i := by
  rw [accepted_iff]
  rintro (⟨hready, -, hon, -⟩ | ⟨hready, -, hon, hleast⟩)
  · obtain ⟨-, hcls, -⟩ := ordWb_iff.mp hon
    rcases h with ⟨-, hbusy⟩ | ⟨hun, -⟩
    · simp [hbusy] at hready
    · simp [hcls] at hun
  · obtain ⟨-, hcls, -⟩ := unWbOn_iff.mp hon
    rcases h with ⟨hord, -⟩ | ⟨-, hbusy | ⟨l, hl, hlower⟩⟩
    · simp [hcls] at hord
    · simp [hbusy] at hready
    · simp [hleast l hl] at hlower

/-- A slot that waits is after the cycle as it was. -/
theorem slot_of_waits {s t : State} {i : Nat} (hinv : Invariant s) (hi : i < s.cfg.n) (hwait : Waits s i)
    (hstep : step s = .next t) : t.slot i = s.slot i := by
  obtain ⟨granted, -, -, hnext⟩ := slotAfterCycle s t hinv hstep i hi
  obtain ⟨m, hrun, rfl⟩ := step_eq_next.mp hstep
  obtain ⟨hocc, hcancel, hreason⟩ := hwait
  rw [hcancel] at hnext
  have hrefused (h : ¬Accepted (sample s) i) : (commit m).wires.wbFire.getD i false = false := by
    simpa [wbFire] using mt (accepted_of_wbFire hrun) h
  rcases hreason with ⟨hst, hno⟩ | ⟨hst, hcls, hno⟩ | ⟨hst, hcls, hno⟩ | ⟨hst, hcls, hno⟩ | ⟨hst, hno⟩
  · rw [if_neg hno, nextSlot_resp_none hocc hst] at hnext
    simpa using hnext
  · have helig : ¬elig (sample s) i = true := by
      rw [elig_iff, sample_slot, sample_regs]
      rintro ⟨-, hun | htok⟩
      · simp [hcls] at hun
      · exact hno htok
    rw [nextSlot_idle hocc hst] at hnext
    simpa [helig] using hnext
  · rw [nextSlot_wb hocc hst, hrefused (not_accepted (.inl ⟨hcls, hno⟩))] at hnext
    simpa using hnext
  · rw [nextSlot_wb hocc hst, hrefused (not_accepted (.inr ⟨hcls, hno⟩))] at hnext
    simpa using hnext
  · have hfire : (commit m).wires.fire.getD i false = false := by
      simpa [fire, hno] using mt (beReqReady_of_fire (i := i) hrun)
    rw [nextSlot_req hocc hst, hfire] at hnext
    simpa using hnext

/-! ## Any number of cycles -/

theorem runCycles_succ_of_next {s t : State} (h : step s = .next t) (k : Nat) : runCycles (k + 1) s = runCycles k t := by
  simp only [runCycles, h]

/-- A state of the invariant steps to one, with the same parameters. -/
theorem exists_step {s : State} (hinv : Invariant s) : ∃ t, step s = .next t ∧ Invariant t ∧ t.cfg = s.cfg := by
  obtain ⟨t, hstep⟩ := everyStepCompletes s (cmdRead_lt hinv.1)
  obtain ⟨-, -, -, -, -, -, hcfg, -⟩ := historyAndToken s t hstep
  exact ⟨t, hstep, stepKeepsInvariant s t hinv hstep, hcfg⟩

/-- A slot that waits in each of `k` cycles is after them as it was. -/
theorem slot_of_waits_cycles {s : State} {i k : Nat} (hinv : Invariant s) (hi : i < s.cfg.n)
    (hwait : ∀ j, j < k → ∀ u, runCycles j s = some u → Waits u i) :
    ∃ t, runCycles k s = some t ∧ t.slot i = s.slot i := by
  induction k generalizing s with
  | zero => exact ⟨s, rfl, rfl⟩
  | succ k ih =>
    obtain ⟨u, hstep, hinvu, hcfg⟩ := exists_step hinv
    have hslot := slot_of_waits hinv hi (hwait 0 (Nat.succ_pos k) s rfl) hstep
    obtain ⟨t, hrun, ht⟩ := ih hinvu (hcfg ▸ hi) fun j hj v hv =>
      hwait (j + 1) (Nat.succ_lt_succ hj) v (by rwa [runCycles_succ_of_next hstep])
    exact ⟨t, by rwa [runCycles_succ_of_next hstep], ht.trans hslot⟩

/-- Slot `i` waits under the inputs `x`, which the environment gives in every cycle to come. -/
structure WaitsForever (x : Input) (i : Nat) (s : State) : Prop where
  inv : Invariant s
  inRange : i < s.cfg.n
  script : s.script = []
  env : s.env = .again [x]
  waits : WaitsUnder s (x.onPorts s.cfg) i

theorem WaitsForever.nextInput_eq {x : Input} {i : Nat} {s : State} (h : WaitsForever x i s) :
    nextInput s = x.onPorts s.cfg := by
  simp [nextInput, h.script, h.env, Environment.input, Nat.mod_one]

theorem WaitsForever.waits_now {x : Input} {i : Nat} {s : State} (h : WaitsForever x i s) : Waits s i := by
  obtain ⟨hocc, hflush, hreason⟩ := h.waits
  rw [← h.nextInput_eq] at hflush hreason
  refine ⟨hocc, by simp [cancelNow, hit, hflush], ?_⟩
  rcases hreason with hresp | ⟨hst, hcls, htok, -⟩ | hord | ⟨hst, hcls, hbusy⟩ | hreq
  · exact .inl hresp
  · exact .inr (.inl ⟨hst, hcls, htok⟩)
  · exact .inr (.inr (.inl hord))
  · exact .inr (.inr (.inr (.inl ⟨hst, hcls, .inl hbusy⟩)))
  · exact .inr (.inr (.inr (.inr hreq)))

/-- The token's copy is then the token of the repeated inputs, which does not name the slot either (R349 (b)). -/
theorem WaitsForever.step_keeps {x : Input} {i : Nat} {s t : State} (h : WaitsForever x i s) (hstep : step s = .next t) :
    WaitsForever x i t := by
  have hslot := slot_of_waits h.inv h.inRange h.waits_now hstep
  obtain ⟨-, -, htok, -, hscript, -, hcfg, -, henv⟩ := historyAndToken s t hstep
  rw [h.nextInput_eq] at htok
  refine ⟨stepKeepsInvariant s t h.inv hstep, hcfg ▸ h.inRange, by rw [hscript, h.script, List.tail_nil],
    henv.trans h.env, ?_⟩
  obtain ⟨hocc, hflush, hreason⟩ := h.waits
  simp only [WaitsUnder, hslot, hcfg, htok]
  refine ⟨hocc, hflush, hreason.imp_right (Or.imp_left ?_)⟩
  exact fun ⟨hst, hcls, _, hnever⟩ => ⟨hst, hcls, hnever, hnever⟩

/-- Settles O60: a slot that waits in a cycle is unchanged by it, and inputs that repeat leave it waiting. -/
theorem waitingIsUnbounded : Obligations.WaitingIsUnbounded := by
  intro s i hinv hi
  refine ⟨fun k hwait => slot_of_waits_cycles hinv hi hwait, fun x hscript henv hwait k => ?_⟩
  refine slot_of_waits_cycles hinv hi fun j _ u hu => ?_
  have hu' : WaitsForever x i u :=
    runCycles_keeps (P := WaitsForever x i) (fun _ _ h hstep => h.step_keeps hstep) ⟨hinv, hi, hscript, henv, hwait⟩ hu
  exact hu'.waits_now

end Sys2Proof.Machine
end

section
/-!
The draws of the allocator (R195; O41): the empty draw takes the free indices as they stand, lowest first, and every order of
them is taken by the draw that names, one after another, the place of each in what is left.
-/
namespace Sys2Proof.Machine

/-- A free index is one of the pool's. -/
theorem lt_length_of_free {pool : List Bool} {i : Nat} (h : pool.getD i false = true) : i < pool.length := by
  by_contra hi
  rw [List.getD_eq_default _ _ (Nat.le_of_not_lt hi)] at h
  cases h

/-! ## The reference draw -/

/-- Without numbers, a draw takes the elements of a list as they stand. -/
theorem drawOrder_nil (k : Nat) (l : List Nat) : drawOrder k [] l = l.take k := by
  induction k generalizing l with
  | zero => rfl
  | succ k ih =>
    cases l with
    | nil => rfl
    | cons x xs =>
      have hfirst : ([] : List Nat).headD 0 % (xs.length + 1) = 0 := Nat.zero_mod _
      simp only [drawOrder, hfirst, List.getD_cons_zero, List.eraseIdx_cons_zero, List.tail_nil, ih, List.take_succ_cons]

theorem pick_nil (pool : List Bool) (k : Nat) : pick [] pool k = (freeList pool)[k]? := by
  rw [pick, drawOrder_nil, List.take_length]

/-- In ascending order a free index stands behind those free below it. -/
theorem freeList_getElem?_countBelow {pool : List Bool} {i : Nat} (h : pool.getD i false = true) :
    (freeList pool)[countBelow i fun j => pool.getD j false]? = some i := by
  obtain ⟨d, hd⟩ := Nat.exists_eq_add_of_lt (lt_length_of_free h)
  have hsplit : List.range pool.length = List.range i ++ i :: (List.range d).map (i + 1 + ·) := by
    rw [hd, Nat.add_right_comm, List.range_add, List.range_succ, List.append_assoc, List.singleton_append]
  rw [freeList, hsplit, List.filter_append, List.filter_cons_of_pos (p := fun j => pool.getD j false) h,
    countBelow, List.countP_eq_length_filter, List.getElem?_append_right le_rfl, Nat.sub_self, List.getElem?_cons_zero]

/-- The reference draw is lowest first (R195): it gives offset `k` the free index with `k` free ones below it. -/
theorem pick_nil_eq_some {pool : List Bool} {k i : Nat} :
    pick [] pool k = some i ↔ pool.getD i false = true ∧ countBelow i (fun j => pool.getD j false) = k := by
  have hplace (hfree : pool.getD i false = true) : pick [] pool (countBelow i fun j => pool.getD j false) = some i :=
    (pick_nil ..).trans (freeList_getElem?_countBelow hfree)
  constructor
  · intro h
    have hfree := free_of_pick h
    exact ⟨hfree, pick_injective (hplace hfree) h⟩
  · rintro ⟨hfree, rfl⟩
    exact hplace hfree

/-! ## Every order is drawn -/

/-- A number below the length names the element that the draw takes next. -/
theorem drawOrder_cons {k d : Nat} {l : List Nat} (hd : d < l.length) (draw : List Nat) :
    drawOrder (k + 1) (d :: draw) l = l[d] :: drawOrder k draw (l.eraseIdx d) := by
  cases l with
  | nil => exact absurd hd (Nat.not_lt_zero d)
  | cons x xs =>
    have hmod : d % (xs.length + 1) = d := Nat.mod_eq_of_lt hd
    simp only [drawOrder, List.headD_cons, List.tail_cons, hmod, List.getD_eq_getElem _ _ hd]

/-- At each step the draw names the place that the wanted element has in what is left. -/
theorem exists_drawOrder {l order : List Nat} (h : order.Perm l) : ∃ draw, drawOrder l.length draw l = order := by
  induction order generalizing l with
  | nil => exact ⟨[], by rw [drawOrder_nil, List.take_length, h.nil_eq]⟩
  | cons x order ih =>
    obtain ⟨hmem, hrest⟩ := List.cons_perm_iff_perm_erase.mp h
    rw [List.erase_eq_eraseIdx_of_idxOf rfl] at hrest
    have hidx : l.idxOf x < l.length := List.idxOf_lt_length_of_mem hmem
    have hlen : l.length = (l.eraseIdx (l.idxOf x)).length + 1 := by
      rw [List.length_eraseIdx_of_lt hidx]
      omega
    obtain ⟨draw, hdraw⟩ := ih hrest
    exact ⟨l.idxOf x :: draw, by rw [hlen, drawOrder_cons hidx, hdraw, List.getElem_idxOf]⟩

/-- Settles O41: a draw reorders the free indices, so it gives each offset below their number another one; the orders it can
give are all. -/
theorem drawsAreLawful : Obligations.DrawsAreLawful := by
  intro pool
  refine ⟨fun draw k => ⟨⟨pick_isSome, fun hsome => ?_⟩, fun _ => free_of_pick, fun _ _ => pick_injective⟩,
    fun _ _ => pick_nil_eq_some, fun order hperm => ?_⟩
  · by_contra hge
    simp [pick_eq_none (Nat.le_of_not_lt hge)] at hsome
  · obtain ⟨draw, hdraw⟩ := exists_drawOrder (l := freeList pool) hperm
    exact ⟨draw, fun k => by rw [pick, hdraw]⟩

end Sys2Proof.Machine
end

section
/-!
The operations of a lane of the allocator (42_allocator.md R190 to R197), one by one: what each drives, and the signals that
pick it (O12).
-/
namespace Sys2Proof.Machine

/-- An operation on a lane of the block answers the state that its rule writes. -/
theorem onLane_of_lt {s t : State} {w : Nat} (hw : w < s.cfg.w) : onLane s w t = .next t := if_pos hw

/-- A lane of the block performs the operation that its request and its offset pick (R102). -/
theorem performs_alloc {s : State} {w : Nat} (hw : w < s.cfg.w) :
    Performs s ⟨.al, w⟩
      (if enqReq s w = false then .allocNone w (canAlloc s w)
       else if canAlloc s w then .allocGrant w else .allocReject w) :=
  ⟨rfl, decode_eq_ok.mpr ⟨hw, alWord_lt .., nofun, (tableOp_alloc s w).symm⟩⟩

theorem canAlloc_iff {s : State} {w : Nat} : canAlloc s w = true ↔ allocOff s w < s.regs.pool.count true :=
  decide_eq_true_iff

/-- A grant drives the index that the draw gives the lane's offset (R192, R195). -/
theorem exec_allocGrant {s : State} {w i : Nat} (hw : w < s.cfg.w)
    (hi : pick s.inp.draw s.regs.pool (allocOff s w) = some i) :
    exec (.allocGrant w) s = .next (s.driveEnq w (some i) false) := by
  simp only [exec, execAllocGrant, if_pos hw, hi, onChoice]

/-- Settles O12: with free slots left the draw has an index for the lane's offset, a free one; the lane's two signals pick
one of the three operations. -/
theorem allocationOperations : Obligations.AllocationOperations := by
  intro s w hw
  have hperf := performs_alloc hw
  refine ⟨fun hcan => ?_, onLane_of_lt hw, fun _ => onLane_of_lt hw, fun hreq hcan => ?_, fun hreq hfull => ?_,
    fun hreq => ?_⟩
  · obtain ⟨i, hi⟩ := Option.isSome_iff_exists.mp (pick_isSome (draw := s.inp.draw) hcan)
    have hfree := free_of_pick hi
    exact ⟨i, hi, lt_length_of_free hfree, hfree, exec_allocGrant hw hi⟩
  · rwa [if_neg (by simp [hreq]), if_pos (canAlloc_iff.mpr hcan)] at hperf
  · rwa [if_neg (by simp [hreq]), if_neg (mt canAlloc_iff.mp (Nat.not_lt.mpr hfull))] at hperf
  · rwa [if_pos hreq] at hperf

end Sys2Proof.Machine
end

section
/-!
The allocator's outputs over a cycle: which table drives the rejections, and that nothing drives the outputs that are read
from the start-of-cycle state (R196; O36); and what a lane's own turn leaves on its outputs (R190 to R193, R198; O39).
-/
namespace Sys2Proof.Machine

/-! ## Which table drives them -/

/-- From the outputs `o` to `o'` only what the operations of table `t` drive has changed, of the rejections (R193) and of the
outputs that show the start of the cycle (R196, R210, R224, R250, R295), which no table drives. -/
structure DrivesOnly (t : Table) (o o' : Output) : Prop where
  rejects : t ≠ .al → o'.allocReject = o.allocReject
  occupancy : o'.occupancy = o.occupancy
  capEmpty : o'.capEmpty = o.capEmpty
  prodReady : o'.prodReady = o.prodReady
  robAck : o'.robAck = o.robAck
  respReady : o'.respReady = o.respReady
  rollback : o'.rollback = o.rollback

/-- The outputs of the back end and of the writeback are none of these. -/
theorem drivesOnly_others (t : Table) (o : Output) (be : Option BeReq) (ord : Option Result) (raw : Option RawWriteback)
    (un : List (Option Result)) (fault : Option Request) :
    DrivesOnly t o { o with beReq := be, wbOrd := ord, wbOrdRaw := raw, wbUn := un, faultOut := fault } :=
  ⟨fun _ => rfl, rfl, rfl, rfl, rfl, rfl, rfl⟩

/-- The allocator's operations drive a lane's grant and rejection. -/
theorem driveEnq_drivesOnly (s : State) (w : Nat) (g : Option Nat) (r : Bool) : DrivesOnly .al s.out (s.driveEnq w g r).out :=
  ⟨nofun, rfl, rfl, rfl, rfl, rfl, rfl⟩

theorem handoff_drivesOnly (t : Table) (s : State) (g : Nat) (r : Bool) : DrivesOnly t s.out (s.handoff g r).out := by
  cases r <;> exact drivesOnly_others ..

theorem drainOrd_drivesOnly (t : Table) (s : State) (o : Nat) (r : Bool) : DrivesOnly t s.out (s.drainOrd o r).out := by
  cases r <;> exact drivesOnly_others ..

theorem drainUn_drivesOnly (t : Table) (s : State) (j u : Nat) (r : Bool) : DrivesOnly t s.out (s.drainUn j u r).out := by
  cases r <;> exact drivesOnly_others ..

/-- Every operation drives only what its table drives. -/
theorem exec_drivesOnly {i : Instr} {s s' : State} (h : exec i s = .next s') :
    DrivesOnly (encode s.cfg i).1.table s.out s'.out := by
  cases i with
  | slotResubmitFault | slotEmpty | idleCancel | idleIssue | idleWait | reqCancel | reqFire | reqStall | respDiscardNow
  | respDiscardPending | respCapture | respMarkCancel | respWait | wbCancel | wbFire | wbHold | slotInvariantFault
  | respDeliver | szLb | szLh | szLw | szLd | szLbu | szLhu | szLwu | szRsv | beRead =>
    obtain ⟨-, rfl⟩ := onSlot_eq_next.mp h
    exact drivesOnly_others ..
  | subBad | subCapture | subNone | admNone | admBadClass | admFlushed | admExc | admReplay | admUntracked | admEnqOrd
  | admEnqUnord =>
    obtain ⟨-, rfl⟩ := onLane_eq_next.mp h
    exact drivesOnly_others ..
  | allocReject | allocNone =>
    obtain ⟨-, rfl⟩ := onLane_eq_next.mp h
    exact driveEnq_drivesOnly ..
  | wbUnNone =>
    obtain ⟨-, rfl⟩ := onPort_eq_next.mp h
    exact drivesOnly_others ..
  | arbIdle | respStale | respNone | wbOrdNone | faultNone | rbNone | rbSuppress =>
    cases h
    exact drivesOnly_others ..
  | faultReport | rbArm =>
    obtain ⟨g, -, rfl⟩ := onChoice_eq_next.mp h
    exact drivesOnly_others ..
  | rbTieFault =>
    obtain ⟨e, -, rfl⟩ := onChoice_eq_next.mp h
    dsimp only
    split <;> exact drivesOnly_others ..
  | slotEnqWrite =>
    simp only [exec, execSlotEnqWrite] at h
    split at h
    · obtain ⟨w, -, rfl⟩ := onChoice_eq_next.mp h
      exact drivesOnly_others ..
    · cases h
  | allocGrant =>
    simp only [exec, execAllocGrant] at h
    split at h
    · obtain ⟨g, -, rfl⟩ := onChoice_eq_next.mp h
      exact driveEnq_drivesOnly ..
    · cases h
  | arbOrdMultiFault =>
    obtain ⟨g, -, rfl⟩ := onChoice_eq_next.mp h
    exact handoff_drivesOnly _ (s.raise .ordMulti) g _
  | arbOrdFire | arbOrdStall | arbUnordFire | arbUnordStall =>
    obtain ⟨g, -, rfl⟩ := onChoice_eq_next.mp h
    exact handoff_drivesOnly _ s g _
  | wbOrdMultiFault =>
    obtain ⟨o, -, rfl⟩ := onChoice_eq_next.mp h
    exact drainOrd_drivesOnly _ (s.raise .wbOrdMulti) o _
  | wbOrdFire | wbOrdHold =>
    obtain ⟨o, -, rfl⟩ := onChoice_eq_next.mp h
    exact drainOrd_drivesOnly _ s o _
  | wbUnFire | wbUnHold =>
    simp only [exec, execWbUnFire, execWbUnHold] at h
    split at h
    · obtain ⟨u, -, rfl⟩ := onChoice_eq_next.mp h
      exact drainUn_drivesOnly _ s _ u _
    · cases h

/-- A property that does not look at the trace is kept by a run of components, if each keeps it: the operation that its
table's decoder picks, which drives only what its table does. -/
theorem runSites_keeps_driven {P : State → Prop} {xs : List Site} {a m : State}
    (htrace : ∀ m tr, P m → P { m with trace := tr })
    (hexec : ∀ x, x ∈ xs → ∀ m m', P m → exec (tableOp m.cfg x (selector m x)) m = .next m' →
      WritesOnly x.table m m' → DrivesOnly x.table m.out m'.out → P m')
    (hp : P a) (h : runSites xs a = .next m) : P m := by
  refine runSites_keeps_decoded htrace (fun x hx m i m' hm hd he => ?_) hp h
  have hwrites := exec_decoded_writesOnly hd he
  have hdrives := encode_table_of_decode hd ▸ exec_drivesOnly he
  obtain ⟨-, rfl⟩ := eq_tableOp_of_decode hd
  exact hexec x hx m m' hm he hwrites hdrives

/-! ## Occupancy (R196) -/

/-- The occupancy and the empty capacity stay as they were at the start of the cycle. -/
theorem occupancy_after_cycle {s m : State} {xs : List Site} (h : runSites xs (sample s) = .next m) :
    m.out.occupancy = s.cfg.n - freeCnt s ∧ m.out.capEmpty = decide (freeCnt s = 0) :=
  runSites_keeps_driven
    (P := fun m => m.out.occupancy = s.cfg.n - freeCnt s ∧ m.out.capEmpty = decide (freeCnt s = 0)) (fun _ _ hm => hm)
    (fun _ _ _ _ ⟨hocc, hcap⟩ _ _ hdrives => ⟨hdrives.occupancy.trans hocc, hdrives.capEmpty.trans hcap⟩) ⟨rfl, rfl⟩ h

/-- Settles O36: the outputs are read off the pool of the start of the cycle, and the free and the occupied slots are `N`
together. -/
theorem occupancyOutputs : Obligations.OccupancyOutputs := by
  intro s t hinv hstep
  obtain ⟨m, hrun, rfl⟩ := step_eq_next.mp hstep
  obtain ⟨hocc, hcap⟩ := occupancy_after_cycle hrun
  have hsum := free_add_occupied hinv
  refine ⟨hocc, ?_, hsum, ?_⟩
  · calc m.out.occupancy = s.cfg.n - s.regs.pool.count true := hocc
      _ = countBelow s.cfg.n (fun i => (s.slot i).occ) := by omega
  · rw [commit_out, hcap, decide_eq_true_eq, freeCnt]

/-! ## A lane's turn -/

/-- From `s` to `s'` the outputs of lane `w` have not been driven. -/
structure LaneSame (w : Nat) (s s' : State) : Prop where
  grantsLength : s'.out.enq.length = s.out.enq.length
  grant : enqIdx s' w = enqIdx s w
  rejectsLength : s'.out.allocReject.length = s.out.allocReject.length
  reject : s'.out.allocReject.getD w false = s.out.allocReject.getD w false

theorem LaneSame.trans {w : Nat} {s m s' : State} (h : LaneSame w s m) (g : LaneSame w m s') : LaneSame w s s' :=
  ⟨g.grantsLength.trans h.grantsLength, g.grant.trans h.grant, g.rejectsLength.trans h.rejectsLength,
    g.reject.trans h.reject⟩

theorem laneSame_driveEnq {w l : Nat} (hlw : l ≠ w) (s : State) (g : Option Nat) (r : Bool) :
    LaneSame w s (s.driveEnq l g r) :=
  ⟨List.length_set, getD_set_ne _ hlw .., List.length_set, getD_set_ne _ hlw ..⟩

/-- Only its own turn drives a lane's outputs. -/
theorem laneSame_of_not_mem {w : Nat} {s s' : State} {xs : List Site} (hxs : ⟨.al, w⟩ ∉ xs)
    (h : runSites xs s = .next s') : LaneSame w s s' := by
  refine runSites_keeps_driven (P := LaneSame w s) (fun _ _ hm => ⟨hm.grantsLength, hm.grant, hm.rejectsLength, hm.reject⟩)
    (fun x hx m m' hm he hwrites hdrives => hm.trans ?_) ⟨rfl, rfl, rfl, rfl⟩ h
  by_cases ht : x.table = .al
  · obtain ⟨t, l⟩ := x
    subst ht
    have hlw : l ≠ w := by
      rintro rfl
      exact hxs hx
    rw [exec_alloc_eq he]
    exact laneSame_driveEnq hlw ..
  · have hgrants := hwrites.grants ht
    have hrejects := hdrives.rejects ht
    exact ⟨by rw [hgrants], by rw [enqIdx, enqIdx, hgrants], by rw [hrejects], by rw [hrejects]⟩

/-- After an allocator's turn no admission comes (R135). -/
theorem pairwise_alloc_schedule (c : Config) : (schedule c).Pairwise fun x y => x.table = .al → y.table ≠ .adm := by
  rw [schedule_eq_admission_append, List.pairwise_append]
  exact ⟨List.pairwise_of_forall_mem_list fun x hx _ _ hal => absurd hal (table_ne_of_mem_flatMap (by decide) hx),
    List.pairwise_of_forall_mem_list fun _ _ y hy _ => table_ne_of_mem_flatMap (by decide) hy,
    fun x hx _ _ hal => absurd hal (table_ne_of_mem_flatMap (by decide) hx)⟩

/-- Only admissions write the enqueue requests. -/
theorem requests_kept_of_not_admission {s s' : State} {xs : List Site} (hxs : ∀ x ∈ xs, x.table ≠ .adm)
    (h : runSites xs s = .next s') : s'.wires.enqReq = s.wires.enqReq :=
  runSites_keeps_driven (P := fun m => m.wires.enqReq = s.wires.enqReq) (fun _ _ hm => hm)
    (fun x hx _ _ hm _ hwrites _ => (hwrites.requests (hxs x hx)).trans hm) rfl h

/-- What a lane's turn reads: the start-of-cycle view and the enqueue requests. -/
theorem lane_signals_congr {s s' : State} (hview : SameView s s') (hreq : s'.wires.enqReq = s.wires.enqReq) (w : Nat) :
    enqReq s' w = enqReq s w ∧ allocOff s' w = allocOff s w ∧ canAlloc s' w = canAlloc s w := by
  obtain ⟨-, -, hregs, -⟩ := hview
  have henq : enqReq s' = enqReq s := by
    funext u
    rw [enqReq, enqReq, hreq]
  have hoff : allocOff s' w = allocOff s w := by rw [allocOff, allocOff, henq]
  have hcount : freeCnt s' = freeCnt s := by rw [freeCnt, freeCnt, hregs]
  exact ⟨congrFun henq w, hoff, by rw [canAlloc, canAlloc, hoff, hcount]⟩

/-- After a cycle's components a lane that requests an index has been granted the one drawn at its offset, if its offset is
below the number of free slots, and else has been rejected (R190 to R193). -/
theorem lane_after_cycle {s m : State} {w : Nat} (hw : w < s.cfg.w) (h : runSites (schedule s.cfg) (sample s) = .next m) :
    enqIdx m w = (if enqReq m w && canAlloc m w then pick m.inp.draw m.regs.pool (allocOff m w) else none)
      ∧ m.out.allocReject.getD w false = (enqReq m w && !canAlloc m w) := by
  obtain ⟨pre, post, p, q, hsplit, hpre, hpost, hp, hq, hm⟩ := exists_turn (x := ⟨.al, w⟩) hw h
  have hlater : ∀ x ∈ ⟨.al, w⟩ :: post, x.table ≠ .adm := by
    obtain ⟨-, hrest, -⟩ := List.pairwise_append.mp (hsplit ▸ pairwise_alloc_schedule s.cfg)
    exact List.forall_mem_cons.mpr ⟨nofun, fun x hx => (List.pairwise_cons.mp hrest).1 x hx rfl⟩
  have hrest := runSites_cons_eq_next.mpr ⟨q, hq, hm⟩
  have hview := runSites_view hrest
  obtain ⟨hreq, hoff, hcan⟩ := lane_signals_congr hview (requests_kept_of_not_admission hlater hrest) w
  obtain ⟨-, -, hregs, hinp, -⟩ := hview
  have hturn := exec_alloc_eq (exec_of_active rfl hq).2
  have hbefore := laneSame_of_not_mem hpre hp
  have hafter := laneSame_of_not_mem hpost hm
  have hgrants : w < p.out.enq.length := by
    rw [hbefore.grantsLength]
    simpa [outputBase] using hw
  have hrejects : w < p.out.allocReject.length := by
    rw [hbefore.rejectsLength]
    simpa [outputBase] using hw
  rw [hafter.grant, hafter.reject, hreq, hoff, hcan, hregs, hinp, hturn]
  exact ⟨getD_set_self hgrants .., getD_set_self hrejects ..⟩

theorem exists_grant_iff {s m : State} {w : Nat} (hw : w < s.cfg.w)
    (h : runSites (schedule s.cfg) (sample s) = .next m) :
    (∃ i, enqIdx m w = some i) ↔ enqReq m w = true ∧ canAlloc m w = true := by
  rw [(lane_after_cycle hw h).1, ← Bool.and_eq_true, ← Option.isSome_iff_exists]
  split
  next hgranted =>
    obtain ⟨-, hcan⟩ := Bool.and_eq_true_iff.mp hgranted
    simpa [hgranted] using pick_isSome (canAlloc_iff.mp hcan)
  next hnot => simpa using hnot

theorem reject_iff {s m : State} {w : Nat} (hw : w < s.cfg.w) (h : runSites (schedule s.cfg) (sample s) = .next m) :
    m.out.allocReject.getD w false = true ↔ enqReq m w = true ∧ enqIdx m w = none := by
  have hgrant := exists_grant_iff hw h
  rw [(lane_after_cycle hw h).2, ← Option.not_isSome_iff_eq_none, Option.isSome_iff_exists, hgrant]
  simp +contextual

/-- Settles O39: a lane's outputs are those of its own turn; a granted index is drawn, so it is free and no other lane's. -/
theorem grantsInLaneOrder : Obligations.GrantsInLaneOrder := by
  intro s t hstep w hw
  obtain ⟨m, hrun, rfl⟩ := step_eq_next.mp hstep
  obtain ⟨-, -, hregs, -⟩ := runSites_view hrun
  rw [sample_regs] at hregs
  refine ⟨?_, reject_iff (m := m) hw hrun, fun i hi => ?_⟩
  · rw [← hregs]
    exact (exists_grant_iff hw hrun).trans (and_congr_right' canAlloc_iff)
  · have hfree := grantsFree_of_run hrun w i hi
    rw [hregs] at hfree
    exact ⟨lt_length_of_free hfree, hfree, fun u _ hu => (grantsDrawn_after_cycle hrun).injective hu hi⟩

end Sys2Proof.Machine
end

section
/-!
The outputs that no operation chooses (R210, R224, R250, R295; O35), and when a lane has an enqueue request after a cycle
(R223; O38).
-/
namespace Sys2Proof.Machine

/-! ## The outputs that show the start of the cycle -/

/-- The outputs that no operation chooses are as at the start of the cycle from `s`. -/
structure ShowsStart (s : State) (o : Output) : Prop where
  prodReady : o.prodReady = (outputBase s).prodReady
  robAck : o.robAck = (outputBase s).robAck
  respReady : o.respReady = true
  rollback : o.rollback = s.regs.rb

theorem ShowsStart.of_drivesOnly {s : State} {t : Table} {o o' : Output} (h : ShowsStart s o) (hdrives : DrivesOnly t o o') :
    ShowsStart s o' :=
  ⟨hdrives.prodReady.trans h.prodReady, hdrives.robAck.trans h.robAck, hdrives.respReady.trans h.respReady,
    hdrives.rollback.trans h.rollback⟩

theorem showsStart_after_cycle {s m : State} {xs : List Site} (h : runSites xs (sample s) = .next m) :
    ShowsStart s m.out :=
  runSites_keeps_driven (P := fun m => ShowsStart s m.out) (fun _ _ hm => hm)
    (fun _ _ _ _ hm _ _ hdrives => hm.of_drivesOnly hdrives) ⟨rfl, rfl, rfl, rfl⟩ h

/-- A lane's acknowledgement at the start of the cycle (R224). -/
theorem outputBase_robAck {s : State} {w : Nat} (hw : w < s.cfg.w) : (outputBase s).robAck[w]? = some (robAck s w) := by
  simp [outputBase, hw]

theorem outputBase_prodReady {s : State} {w : Nat} (hw : w < s.cfg.w) : (outputBase s).prodReady.getD w false = true := by
  simp [outputBase, List.getD_eq_getElem?_getD, hw]

/-- Settles O35: the outputs have their values at the start of the cycle, and no table drives them. -/
theorem fixedOutputs : Obligations.FixedOutputs := by
  intro s t hstep
  obtain ⟨m, hrun, rfl⟩ := step_eq_next.mp hstep
  have hshows := showsStart_after_cycle hrun
  refine ⟨hshows.respReady, hshows.rollback, fun w hw => ⟨?_, ?_⟩⟩
  · rw [commit_out, hshows.prodReady, outputBase_prodReady hw]
  · rw [commit_out, hshows.robAck, outputBase_robAck hw]
    rfl

/-! ## A lane's turn in the admission -/

/-- What an admission reads is in the start-of-cycle view (R130, R214). -/
theorem admits_of_view {s s' : State} (h : SameView s s') (w : Nat) : admits s' w = admits s w := by
  obtain ⟨hcfg, -, hregs, hinp, -⟩ := h
  have hstage : s'.stage w = s.stage w := by rw [State.stage, State.stage, hregs]
  have hflush : flushHit s' w = flushHit s w := by rw [flushHit, flushHit, hstage, hcfg, hregs, hinp]
  rw [admits, admits, hstage, hflush]

/-- Only the admission of its own lane writes an enqueue request. -/
theorem request_kept_of_not_mem {w : Nat} {xs : List Site} {s s' : State} (hxs : ⟨.adm, w⟩ ∉ xs)
    (h : runSites xs s = .next s') :
    s'.wires.enqReq.length = s.wires.enqReq.length ∧ enqReq s' w = enqReq s w := by
  refine runSites_keeps_driven
    (P := fun m => m.wires.enqReq.length = s.wires.enqReq.length ∧ enqReq m w = enqReq s w)
    (fun _ _ hm => hm) (fun x hx m m' hm he hwrites _ => ?_) ⟨rfl, rfl⟩ h
  by_cases ht : x.table = .adm
  · obtain ⟨t, l⟩ := x
    subst ht
    have hlw : l ≠ w := by
      rintro rfl
      exact hxs hx
    rw [enqReq, exec_admission he, List.length_set, getD_set_ne _ hlw]
    exact hm
  · rw [enqReq, hwrites.requests ht]
    exact hm

/-- After a cycle's components a lane has an enqueue request exactly when it admits its Candidate (R223). -/
theorem enqReq_after_cycle {s m : State} {w : Nat} (hw : w < s.cfg.w)
    (h : runSites (schedule s.cfg) (sample s) = .next m) : enqReq m w = admits (sample s) w := by
  obtain ⟨pre, post, p, q, -, hpre, hpost, hp, hq, hm⟩ := exists_turn (x := ⟨.adm, w⟩) hw h
  have hturn := exec_admission (exec_of_active rfl hq).2
  have hlen : w < p.wires.enqReq.length := by
    rw [(request_kept_of_not_mem hpre hp).1]
    simpa [Wires.idle] using hw
  calc enqReq m w = enqReq q w := (request_kept_of_not_mem hpost hm).2
    _ = admits p w := by
      rw [enqReq, hturn]
      exact getD_set_self hlen ..
    _ = admits (sample s) w := admits_of_view (runSites_view hp) w

/-- Settles O38: a lane's enqueue request is what its own admission made of it. -/
theorem enqueueRequests : Obligations.EnqueueRequests := by
  intro s t hstep w hw
  obtain ⟨m, hrun, rfl⟩ := step_eq_next.mp hstep
  exact enqReq_after_cycle (m := m) hw hrun

end Sys2Proof.Machine
end

section
/-!
The operations of a lane's two admission stages (43_admission.md), one by one: what each writes, and the signals that pick it
(O10, O11).
-/
namespace Sys2Proof.Machine

/-- A lane of the block performs the submission that its port's class picks (R100). -/
theorem performs_submit {s : State} {w : Nat} (hw : w < s.cfg.w) :
    Performs s ⟨.sub, w⟩
      (if (s.submission w).valid = false then .subNone w (s.submission w).cand.cls
       else if (s.submission w).cand.cls = .rsvd then .subBad w else .subCapture w (s.submission w).cand.cls) :=
  ⟨rfl, decode_eq_ok.mpr ⟨hw, subWord_lt .., nofun, (tableOp_submit s w).symm⟩⟩

/-- Settles O10: each rule writes its lane's stage register; the valid bit and the class pick one of the three operations. -/
theorem submitStage : Obligations.SubmitStage := by
  intro s w hw
  have hperf := performs_submit hw
  refine ⟨onLane_of_lt hw, fun _ => onLane_of_lt hw, fun _ => onLane_of_lt hw, ?_⟩
  rintro _ rfl
  refine ⟨fun hvalid hcls => ?_, fun hvalid hcls => ?_, fun hvalid => ?_⟩
  · rwa [if_neg (by simp [hvalid]), if_pos hcls] at hperf
  · rwa [if_neg (by simp [hvalid]), if_neg hcls] at hperf
  · rwa [if_pos hvalid] at hperf

/-- A lane of the block performs the admission that its signals pick (R101). -/
theorem performs_admissionOp {s : State} {w : Nat} {v fh exc replay : Bool} {cls : Cls} (hw : w < s.cfg.w)
    (h : StageSignals s w v fh exc replay cls) : Performs s ⟨.adm, w⟩ (admissionOp w v fh exc replay cls) := by
  obtain ⟨hv, hfh, hexc, hreplay, hcls⟩ := h
  refine ⟨rfl, decode_eq_ok.mpr ⟨hw, admWord_lt .., nofun, ?_⟩⟩
  rw [tableOp_admission, hv, hfh, hexc, hreplay, hcls]

/-- A held Candidate of a legal class is tested for a flush, an exception and a replay, in this order (R217 to R222). -/
theorem performs_of_legal {s : State} {w : Nat} {fh exc replay : Bool} {cls : Cls} (hw : w < s.cfg.w) (hcls : cls ≠ .rsvd)
    (h : StageSignals s w true fh exc replay cls) :
    Performs s ⟨.adm, w⟩
      (if fh then .admFlushed w exc replay cls
       else if exc then .admExc w replay cls
       else if replay then .admReplay w cls
       else if cls = .ord then .admEnqOrd w
       else if cls = .unord then .admEnqUnord w
       else .admUntracked w) := by
  have hperf := performs_admissionOp hw h
  rwa [admissionOp, if_neg nofun, if_neg hcls] at hperf

/-- Settles O11: each rule writes its lane's enqueue request; an empty register is matched first, then the reserved class,
and a legal class by the tests in their order. -/
theorem admissionStage : Obligations.AdmissionStage := by
  intro s w hw
  refine ⟨fun op hop => ?_, onLane_of_lt hw, fun fh exc replay cls => ⟨onLane_of_lt hw, fun op hop => ?_⟩,
    fun fh exc replay cls => ⟨performs_admissionOp hw, performs_admissionOp hw, fun hcls => ?_⟩,
    performs_of_legal hw nofun, performs_of_legal hw nofun, performs_of_legal hw nofun⟩
  · fin_cases hop <;> exact onLane_of_lt hw
  · fin_cases hop <;> exact onLane_of_lt hw
  · exact ⟨performs_of_legal hw hcls, performs_of_legal hw hcls, performs_of_legal hw hcls⟩

end Sys2Proof.Machine
end

section
/-!
The round-robin choice (R234, R242): it is the requester that follows the pointer most closely in cyclic order (O44).
-/
namespace Sys2Proof.Machine

theorem leastBelow_eq_some_iff_leastIndex {n i : Nat} {p : Nat → Bool} : leastBelow n p = some i ↔ LeastIndex n p i :=
  leastBelow_eq_some

/-- What the choice is: the least requester after the pointer, or, if there is none after it, the least of all (R234). -/
theorem roundRobin_eq_some {n last g : Nat} {r : Nat → Bool} :
    roundRobin n last r = some g ↔
      LeastIndex n (fun i => r i && decide (last < i)) g ∨
        (∀ i, i < n → (r i && decide (last < i)) = false) ∧ LeastIndex n r g := by
  unfold roundRobin
  split
  next i hlater =>
    have ⟨hi, hreq, _⟩ := leastBelow_eq_some.mp hlater
    rw [← leastBelow_eq_some_iff_leastIndex, hlater]
    refine (or_iff_left ?_).symm
    rintro ⟨hnone, -⟩
    simp [hnone i hi] at hreq
  next hlater =>
    rw [← leastBelow_eq_some_iff_leastIndex, ← leastBelow_eq_some_iff_leastIndex, hlater,
      and_iff_right (leastBelow_eq_none.mp hlater)]
    simp

/-- The choice is a requester. -/
theorem requests_of_roundRobin {n last g : Nat} {r : Nat → Bool} (h : roundRobin n last r = some g) : r g = true := by
  rcases roundRobin_eq_some.mp h with ⟨-, hreq, -⟩ | ⟨-, -, hreq, -⟩
  · exact (Bool.and_eq_true_iff.mp hreq).1
  · exact hreq

theorem roundRobin_isSome_iff {n last : Nat} {r : Nat → Bool} :
    (roundRobin n last r).isSome = true ↔ ∃ i, i < n ∧ r i = true := by
  constructor
  · intro h
    obtain ⟨g, hg⟩ := Option.isSome_iff_exists.mp h
    exact ⟨g, roundRobin_lt hg, requests_of_roundRobin hg⟩
  · exact fun h => roundRobin_isSome (anyBelow_iff.mpr h)

/-! ## Cyclic distance -/

theorem rrDistance_of_lt {n last j : Nat} (h : last < j) (hj : j < n) : rrDistance n last j = j - (last + 1) := by
  have hsum : j + n - (last + 1) = j - (last + 1) + n := by omega
  rw [rrDistance, hsum, Nat.add_mod_right, Nat.mod_eq_of_lt (by omega)]

theorem rrDistance_of_le {n last j : Nat} (h : j ≤ last) (hlast : last < n) : rrDistance n last j = j + n - (last + 1) :=
  Nat.mod_eq_of_lt (by omega)

/-- A choice after the pointer is before the other requesters there, and they before those up to the pointer. -/
theorem rrDistance_of_later {n last g j : Nat} {r : Nat → Bool} (hlast : last < n)
    (hg : LeastIndex n (fun i => r i && decide (last < i)) g) (hj : j < n) (hreq : r j = true) :
    rrDistance n last g ≤ rrDistance n last j ∧ (j ≠ g → rrDistance n g j < rrDistance n last j) := by
  obtain ⟨hgn, hg, hleast⟩ := hg
  have hlater : last < g := of_decide_eq_true (Bool.and_eq_true_iff.mp hg).2
  rw [rrDistance_of_lt hlater hgn]
  rcases Nat.lt_or_ge last j with hafter | hupto
  · have hgj : g ≤ j := by
      by_contra hlt
      simpa [hreq, hafter] using hleast j (Nat.lt_of_not_le hlt)
    rw [rrDistance_of_lt hafter hj]
    refine ⟨by omega, fun hne => ?_⟩
    rw [rrDistance_of_lt (by omega) hj]
    omega
  · rw [rrDistance_of_le hupto hlast, rrDistance_of_le (by omega) hgn]
    omega

/-- With no requester after the pointer, all lie up to it, and the choice is the first. -/
theorem rrDistance_of_wrapped {n last g j : Nat} {r : Nat → Bool} (hlast : last < n)
    (hnone : ∀ i, i < n → (r i && decide (last < i)) = false) (hg : LeastIndex n r g) (hj : j < n) (hreq : r j = true) :
    rrDistance n last g ≤ rrDistance n last j ∧ (j ≠ g → rrDistance n g j < rrDistance n last j) := by
  obtain ⟨hgn, hg, hleast⟩ := hg
  have hupto (i : Nat) (hi : i < n) (hri : r i = true) : i ≤ last := by simpa [hri] using hnone i hi
  have hgj : g ≤ j := by
    by_contra hlt
    simpa [hreq] using hleast j (Nat.lt_of_not_le hlt)
  have hjl := hupto j hj hreq
  rw [rrDistance_of_le (hupto g hgn hg) hlast, rrDistance_of_le hjl hlast]
  refine ⟨by omega, fun hne => ?_⟩
  rw [rrDistance_of_lt (by omega) hj]
  omega

/-- Settles O44: by the two cases of the choice. -/
theorem roundRobinIsFair : Obligations.RoundRobinIsFair := by
  intro n last r hlast
  refine ⟨roundRobin_isSome_iff, fun g hg => ⟨roundRobin_lt hg, requests_of_roundRobin hg, fun j hj hreq => ?_⟩⟩
  rcases roundRobin_eq_some.mp hg with hlater | ⟨hnone, hleast⟩
  · exact rrDistance_of_later hlast hlater hj hreq
  · exact rrDistance_of_wrapped hlast hnone hleast hj hreq

end Sys2Proof.Machine
end

section
/-!
The operations of the arbiter (44_arbiter.md), one by one: what each does, and the signals that pick it (O13, O14); and the
message that BE_READ forwards (O15).
-/
namespace Sys2Proof.Machine

/-! ## Choices -/

theorem onChoice_of_eq {c : Option Nat} {t : Nat → State} {g : Nat} (h : c = some g) : onChoice c t = .next (t g) := by
  rw [h, onChoice]

theorem ordChoice_eq_some {s : State} {g : Nat} : ordChoice s = some g ↔ LeastIndex s.cfg.n (ordReq s) g :=
  leastBelow_eq_some

theorem ordChoice_eq_none {s : State} : ordChoice s = none ↔ ∀ h, h < s.cfg.n → ordReq s h = false :=
  leastBelow_eq_none

theorem anyOrd_eq_false {s : State} : anyOrd s = false ↔ ∀ h, h < s.cfg.n → ordReq s h = false := by
  rw [← Bool.not_eq_true, anyOrd_iff]
  simp

theorem anyUn_eq_false {s : State} : anyUn s = false ↔ ∀ h, h < s.cfg.n → unReq s h = false := by
  rw [← Bool.not_eq_true, anyUn_iff]
  simp

theorem anyUn_of_unChoice {s : State} {g : Nat} (h : unChoice s = some g) : anyUn s = true :=
  anyUn_iff.mpr ⟨g, roundRobin_lt h, requests_of_roundRobin h⟩

/-- Without an ordered requester there are not two. -/
theorem ordMulti_eq_false {s : State} (h : ∀ k, k < s.cfg.n → ordReq s k = false) : ordMulti s = false := by
  rw [← Bool.not_eq_true, ordMulti_iff]
  rintro ⟨-, l, -, hl, -, hreq⟩
  simp [h l hl] at hreq

/-- The arbiter performs the operation that its signals pick (R103). -/
theorem performs_arbiter (s : State) :
    Performs s ⟨.ar, 0⟩
      (if anyOrd s then
        if ordMulti s then .arbOrdMultiFault (anyUn s) s.inp.beReqReady
        else if s.inp.beReqReady then .arbOrdFire (anyUn s) else .arbOrdStall (anyUn s)
      else if anyUn s then if s.inp.beReqReady then .arbUnordFire (ordMulti s) else .arbUnordStall (ordMulti s)
      else .arbIdle s.inp.beReqReady (ordMulti s)) :=
  ⟨rfl, decode_eq_ok.mpr ⟨Nat.one_pos, arWord_lt .., nofun, (tableOp_arbiter s 0).symm⟩⟩

/-- A second ordered requester is what `ord_multi` signals (R230). -/
theorem ordMulti_iff_other {s : State} {g : Nat} (hg : LeastIndex s.cfg.n (ordReq s) g) :
    ordMulti s = true ↔ ∃ h, h ≠ g ∧ h < s.cfg.n ∧ ordReq s h = true := by
  obtain ⟨-, hreq, hleast⟩ := hg
  rw [ordMulti_iff]
  constructor
  · rintro ⟨k, l, hkl, hl, hk, hreql⟩
    have hgk : g ≤ k := by
      by_contra hlt
      simpa [hk] using hleast k (Nat.lt_of_not_le hlt)
    exact ⟨l, (Nat.lt_of_le_of_lt hgk hkl).ne', hl, hreql⟩
  · rintro ⟨h, hne, hh, hreqh⟩
    have hgh : g < h := by
      by_contra hle
      simpa [hreqh] using hleast h (lt_of_le_of_ne (Nat.le_of_not_lt hle) hne)
    exact ⟨g, h, hgh, hh, hreq, hreqh⟩

/-- Settles O13: the least requester is the one that each rule hands off or offers; a second one picks the fault row. -/
theorem orderedArbitration : Obligations.OrderedArbitration := by
  intro s g hg
  have hchoice := ordChoice_eq_some.mpr hg
  have hmulti := ordMulti_iff_other hg
  have ⟨hgn, hreq, _⟩ := hg
  have hperf := performs_arbiter s
  rw [if_pos (anyOrd_iff.mpr ⟨g, hgn, hreq⟩)] at hperf
  refine ⟨fun _ => onChoice_of_eq hchoice, fun _ => onChoice_of_eq hchoice, fun _ => onChoice_of_eq hchoice,
    fun _ => onChoice_of_eq hchoice, fun hother => ?_, fun honly => ?_⟩
  · rwa [if_pos (hmulti.mpr hother)] at hperf
  · rwa [if_neg (mt hmulti.mp fun ⟨h, hne, hh, hreqh⟩ => hne (honly h hh hreqh))] at hperf

/-- Settles O14: the round-robin choice is the one that each rule hands off or offers; the rows are those without an ordered
requester. -/
theorem unorderedArbitration : Obligations.UnorderedArbitration := by
  intro s
  have hperf := performs_arbiter s
  refine ⟨fun g hg => ⟨fun _ => onChoice_of_eq hg, fun _ => onChoice_of_eq hg, fun hord => ?_⟩, fun _ _ => rfl,
    fun hnone => ?_⟩
  · rwa [ordMulti_eq_false hord, anyOrd_eq_false.mpr hord, if_neg nofun, if_pos (anyUn_of_unChoice hg)] at hperf
  · have hord (h : Nat) (hh : h < s.cfg.n) := (hnone h hh).1
    have hun (h : Nat) (hh : h < s.cfg.n) := (hnone h hh).2
    rwa [ordMulti_eq_false hord, anyOrd_eq_false.mpr hord, anyUn_eq_false.mpr hun, if_neg nofun, if_neg nofun] at hperf

/-! ## The message -/

/-- The mask half in arithmetic: address bit 3 says whether the upper byte of the mask is meant (R236). -/
theorem mask8_eq (r : Request) :
    mask8 r = if r.addr / 8 % 2 = 1 then BitVec.ofNat 8 (r.mask.toNat / 2 ^ 8) else BitVec.ofNat 8 r.mask.toNat := by
  have hbit : r.addr.testBit 3 = true ↔ r.addr / 8 % 2 = 1 := by
    rw [Nat.testBit_eq_decide_div_mod_eq, decide_eq_true_eq]
  simp only [mask8, hbit, BitVec.extractLsb', Nat.shiftRight_eq_div_pow, Nat.pow_zero, Nat.div_one]

/-- The message on the channel makes its slot's command perform: the tag names the slot, the command is the read command
(R94, R109). -/
theorem performs_beRead {s : State} {g : Nat} (hg : g < s.cfg.n) (hfit : s.cfg.cmdRead < 2 ^ s.cfg.cmdW)
    (h : s.out.beReq = some (beReq s g)) : Performs s ⟨.be, g⟩ (.beRead g) := by
  have hselector : selector s ⟨.be, g⟩ = s.cfg.cmdRead := by
    simp only [selector, selCommand, h]
    rfl
  refine ⟨?_, decode_eq_ok.mpr ⟨hg, hselector ▸ hfit, fun _ => hselector, rfl⟩⟩
  simp only [active, h]
  exact decide_eq_true rfl

/-- Settles O15: the fields are the model's by definition, but the mask half. -/
theorem forwardedMessage : Obligations.ForwardedMessage := by
  intro s g
  refine ⟨?_, fun hg => onSlot_of_lt hg, performs_beRead⟩
  rw [← mask8_eq]
  rfl

end Sys2Proof.Machine
end

section
/-!
The arbiter over a cycle (R230 to R242): what its turn leaves on the channel, on the handoffs and in the pointer, and that
no later operation changes it (O42, O43).
-/
namespace Sys2Proof.Machine

/-! ## The arbiter's turn -/

/-- The slot that the arbiter offers: the least eligible ordered requester, else the round-robin choice (R231, R239). -/
def arbChoice (s : State) : Option Nat := (ordChoice s).or (unChoice s)

/-- The slot that the arbiter hands off: the offered one, on a ready channel (R237). -/
def handedOff (s : State) : Option Nat := if s.inp.beReqReady then arbChoice s else none

/-- From `s` to `s'` the arbiter offers its choice and hands it off on a ready channel; only the handoff of an unordered slot
moves the pointer (R233). -/
structure ArbiterTurn (s s' : State) : Prop where
  offer : s'.out.beReq = (arbChoice s).map (beReq s)
  handoff : s'.wires.fire = (handedOff s).elim s.wires.fire fun g => s.wires.fire.set g true
  pointer : s'.nxt.rrLast = if (ordChoice s).isSome then s.nxt.rrLast else (handedOff s).getD s.nxt.rrLast

/-- A mark is none of the arbiter's signals. -/
theorem ArbiterTurn.of_raise {s s' : State} {r : FaultReason} (h : ArbiterTurn (s.raise r) s') : ArbiterTurn s s' :=
  ⟨h.offer, h.handoff, h.pointer⟩

theorem arbiterTurn_ordered {s : State} {g : Nat} {r : Bool} (hr : s.inp.beReqReady = r) (hg : ordChoice s = some g) :
    ArbiterTurn s (s.handoff g r) := by
  have hchoice : arbChoice s = some g := by simp [arbChoice, hg]
  refine ⟨by rw [handoff_beReq, hchoice, Option.map_some], ?_, by simp [handoff_nxt, hg]⟩
  cases r <;> simp [handoff_wires, handedOff, hr, hchoice]

theorem arbiterTurn_unordered {s : State} {g : Nat} (hord : ordChoice s = none) (hg : unChoice s = some g) :
    (s.inp.beReqReady = true → ArbiterTurn s ((s.handoff g true).writeRrLast g)) ∧
      (s.inp.beReqReady = false → ArbiterTurn s (s.handoff g false)) := by
  have hchoice : arbChoice s = some g := by simp [arbChoice, hord, hg]
  constructor
  · intro hready
    constructor <;> simp [handoff_beReq, handoff_wires, handedOff, hord, hchoice, hready]
  · intro hbusy
    constructor <;> simp [handoff_beReq, handoff_wires, handoff_nxt, handedOff, hord, hchoice, hbusy]

theorem arbiterTurn_idle {s : State} (hord : ordChoice s = none) (hun : unChoice s = none) :
    ArbiterTurn s (s.driveBeReq none) := by
  have hchoice : arbChoice s = none := by simp [arbChoice, hord, hun]
  constructor <;> simp [handedOff, hchoice]

/-- What the arbiter's operation does, whichever its signals pick (R231, R232, R238 to R241). -/
theorem exec_arbiter_turn {s s' : State} {k : Nat}
    (h : exec (tableOp s.cfg ⟨.ar, k⟩ (selector s ⟨.ar, k⟩)) s = .next s') : ArbiterTurn s s' := by
  rw [tableOp_arbiter] at h
  cases hord : anyOrd s with
  | true =>
    rw [hord, if_pos rfl] at h
    split_ifs at h with hmulti hready
    · obtain ⟨g, hg, rfl⟩ := onChoice_eq_next.mp h
      exact (arbiterTurn_ordered (s := s.raise .ordMulti) rfl hg).of_raise
    · obtain ⟨g, hg, rfl⟩ := onChoice_eq_next.mp h
      exact arbiterTurn_ordered hready hg
    · obtain ⟨g, hg, rfl⟩ := onChoice_eq_next.mp h
      exact arbiterTurn_ordered (Bool.eq_false_of_not_eq_true hready) hg
  | false =>
    have hnone := ordChoice_eq_none.mpr (anyOrd_eq_false.mp hord)
    rw [hord, if_neg nofun] at h
    split_ifs at h with hun hready
    · obtain ⟨g, hg, rfl⟩ := onChoice_eq_next.mp h
      exact (arbiterTurn_unordered hnone hg).1 hready
    · obtain ⟨g, hg, rfl⟩ := onChoice_eq_next.mp h
      exact (arbiterTurn_unordered hnone hg).2 (Bool.eq_false_of_not_eq_true hready)
    · cases h
      exact arbiterTurn_idle hnone (roundRobin_eq_none (anyUn_eq_false.mp (Bool.eq_false_of_not_eq_true hun)))

/-! ## The channel after the arbiter's turn -/

/-- Only the arbiter and the message itself drive the channel (R235, R241). -/
theorem exec_keeps_beReq {i : Instr} {s s' : State} (har : (encode s.cfg i).1.table ≠ .ar)
    (hbe : (encode s.cfg i).1.table ≠ .be) (h : exec i s = .next s') : s'.out.beReq = s.out.beReq := by
  cases i with
  | arbOrdMultiFault | arbOrdFire | arbOrdStall | arbUnordFire | arbUnordStall | arbIdle => exact absurd rfl har
  | beRead => exact absurd rfl hbe
  | slotResubmitFault | slotEmpty | idleCancel | idleIssue | idleWait | reqCancel | reqFire | reqStall | respDiscardNow
  | respDiscardPending | respCapture | respMarkCancel | respWait | wbCancel | wbFire | wbHold | slotInvariantFault
  | respDeliver | szLb | szLh | szLw | szLd | szLbu | szLhu | szLwu | szRsv =>
    obtain ⟨-, rfl⟩ := onSlot_eq_next.mp h
    rfl
  | subBad | subCapture | subNone | admNone | admBadClass | admFlushed | admExc | admReplay | admUntracked | admEnqOrd
  | admEnqUnord | allocReject | allocNone =>
    obtain ⟨-, rfl⟩ := onLane_eq_next.mp h
    rfl
  | wbUnNone =>
    obtain ⟨-, rfl⟩ := onPort_eq_next.mp h
    rfl
  | slotEnqWrite | allocGrant =>
    simp only [exec, execSlotEnqWrite, execAllocGrant] at h
    split at h
    · obtain ⟨w, -, rfl⟩ := onChoice_eq_next.mp h
      rfl
    · cases h
  | wbUnFire | wbUnHold =>
    simp only [exec, execWbUnFire, execWbUnHold] at h
    split at h
    · obtain ⟨u, -, rfl⟩ := onChoice_eq_next.mp h
      exact drainUn_beReq ..
    · cases h
  | wbOrdMultiFault | wbOrdFire | wbOrdHold =>
    obtain ⟨o, -, rfl⟩ := onChoice_eq_next.mp h
    exact drainOrd_beReq ..
  | faultReport | rbArm =>
    obtain ⟨f, -, rfl⟩ := onChoice_eq_next.mp h
    rfl
  | rbTieFault =>
    obtain ⟨e, -, rfl⟩ := onChoice_eq_next.mp h
    dsimp only
    split <;> rfl
  | respStale | respNone | wbOrdNone | faultNone | rbNone | rbSuppress =>
    cases h
    rfl

theorem beReq_of_view {s m : State} (h : SameView s m) (g : Nat) : beReq m g = beReq s g := by
  obtain ⟨hcfg, -, hregs, -⟩ := h
  simp only [beReq, State.slot, hcfg, hregs]

/-- The message on the channel, if there is one, is that of the slot its tag names (R235). -/
def OffersTagged (s : State) : Prop := ∀ b, s.out.beReq = some b → b = beReq s b.tag

/-- The message of an offered slot, put on the channel again, is the same one (R109). -/
theorem runSite_keeps_offer {x : Site} {s s' : State} (hx : x.table ≠ .ar) (hs : OffersTagged s)
    (h : runSite x s = .next s') : s'.out.beReq = s.out.beReq := by
  rcases runSite_eq_next.mp h with ⟨-, rfl⟩ | ⟨hactive, i, hd, he⟩
  · rfl
  have htable := encode_table_of_decode hd
  by_cases hbe : x.table = .be
  · obtain ⟨t, k⟩ := x
    subst hbe
    obtain ⟨-, rfl⟩ := eq_tableOp_of_decode hd
    obtain ⟨-, rfl⟩ := onSlot_eq_next.mp he
    simp only [active] at hactive
    split at hactive
    next b hb =>
      obtain rfl : b.tag = k := of_decide_eq_true hactive
      exact (congrArg some (hs b hb)).symm.trans hb.symm
    next => cases hactive
  · exact exec_keeps_beReq (s := s.noting x) (htable.trans_ne hx) (htable.trans_ne hbe) he

/-- After the arbiter's turn the channel keeps its message. -/
theorem runSites_keeps_offer {xs : List Site} {s s' : State} (hxs : ∀ x ∈ xs, x.table ≠ .ar) (hs : OffersTagged s)
    (h : runSites xs s = .next s') : s'.out.beReq = s.out.beReq := by
  suffices hboth : s'.out.beReq = s.out.beReq ∧ OffersTagged s' from hboth.1
  refine runSites_keeps (P := fun m => m.out.beReq = s.out.beReq ∧ OffersTagged m) (fun x hx m m' ⟨hm, htag⟩ hr => ?_)
    ⟨rfl, hs⟩ h
  have hkept := runSite_keeps_offer (hxs x hx) htag hr
  refine ⟨hkept.trans hm, fun b hb => ?_⟩
  rw [beReq_of_view (runSite_view hr)]
  exact htag b (hkept ▸ hb)

/-- Only the arbiter raises handoffs and moves the pointer. -/
theorem handoffs_and_pointer_kept {xs : List Site} {s s' : State} (hxs : ∀ x ∈ xs, x.table ≠ .ar)
    (h : runSites xs s = .next s') : s'.wires.fire = s.wires.fire ∧ s'.nxt.rrLast = s.nxt.rrLast :=
  runSites_keeps_framed (P := fun m => m.wires.fire = s.wires.fire ∧ m.nxt.rrLast = s.nxt.rrLast) (fun _ _ hm => hm)
    (fun x hx _ _ _ ⟨hfire, hptr⟩ _ hwrites hraises =>
      ⟨(hraises.fire (hxs x hx)).trans hfire, (hwrites.pointer (hxs x hx)).trans hptr⟩) ⟨rfl, rfl⟩ h

/-! ## The whole cycle -/

theorem ordReq_of_view {s m : State} (h : SameView s m) : ordReq m = ordReq s := by
  funext i
  have ⟨_, _, hregs, _⟩ := h
  simp [ordReq, elig_of_view h, cancelNow_of_view h, State.slot, hregs]

theorem unReq_of_view {s m : State} (h : SameView s m) : unReq m = unReq s := by
  funext i
  have ⟨_, _, hregs, _⟩ := h
  simp [unReq, cancelNow_of_view h, State.slot, hregs]

/-- What the arbiter chooses is fixed at the start of the cycle (R130). -/
theorem choices_of_view {s m : State} (h : SameView s m) :
    ordChoice m = ordChoice s ∧ arbChoice m = arbChoice s ∧ handedOff m = handedOff s := by
  have ⟨hcfg, _, hregs, hinp, _⟩ := h
  simp only [handedOff, arbChoice, ordChoice, unChoice, hcfg, hregs, hinp, ordReq_of_view h, unReq_of_view h, and_self]

/-- The turn as seen from an earlier point, at which nothing was handed off either and the pointer was the same. -/
theorem ArbiterTurn.from_earlier {s p s' : State} (h : ArbiterTurn p s') (hview : SameView s p)
    (hfire : p.wires.fire = s.wires.fire) (hptr : p.nxt.rrLast = s.nxt.rrLast) : ArbiterTurn s s' := by
  obtain ⟨hord, hchoice, hoff⟩ := choices_of_view hview
  have hmessage : beReq p = beReq s := funext (beReq_of_view hview)
  exact ⟨by rw [h.offer, hchoice, hmessage], by rw [h.handoff, hoff, hfire], by rw [h.pointer, hord, hoff, hptr]⟩

theorem ArbiterTurn.offersTagged {s s' : State} (h : ArbiterTurn s s') (hview : SameView s s') : OffersTagged s' := by
  intro b hb
  obtain ⟨g, -, rfl⟩ := Option.map_eq_some_iff.mp (h.offer.symm.trans hb)
  exact (beReq_of_view hview g).symm

/-- A cycle leaves what the arbiter's turn, taken at its start, would leave. -/
theorem arbiterTurn_after_cycle {s m : State} (h : runSites (schedule s.cfg) (sample s) = .next m) :
    ArbiterTurn (sample s) m := by
  obtain ⟨pre, post, p, q, hsplit, hpre, hpost, hp, hq, hm⟩ := exists_turn (x := ⟨.ar, 0⟩) Nat.one_pos h
  have hother {xs : List Site} (hsub : xs ⊆ schedule s.cfg) (hxs : ⟨.ar, 0⟩ ∉ xs) : ∀ x ∈ xs, x.table ≠ .ar := by
    rintro ⟨t, k⟩ hx rfl
    obtain rfl : k = 0 := Nat.lt_one_iff.mp (mem_schedule.mp (hsub hx))
    exact hxs hx
  have hlater := hother (by simp [hsplit]) hpost
  obtain ⟨hfirep, hptrp⟩ := handoffs_and_pointer_kept (hother (by simp [hsplit]) hpre) hp
  obtain ⟨hfirem, hptrm⟩ := handoffs_and_pointer_kept hlater hm
  have hturn : ArbiterTurn p q :=
    (exec_arbiter_turn (exec_of_active rfl hq).2).from_earlier (by simp [SameView, State.noting]) rfl rfl
  have hmessage := runSites_keeps_offer hlater (hturn.offersTagged (runSite_view hq)) hm
  have hstart := hturn.from_earlier (runSites_view hp) hfirep hptrp
  exact ⟨hmessage.trans hstart.offer, hfirem.trans hstart.handoff, hptrm.trans hstart.pointer⟩

theorem arbChoice_eq_some {s : State} {g : Nat} :
    arbChoice s = some g ↔
      LeastIndex s.cfg.n (ordReq s) g ∨ (∀ h, h < s.cfg.n → ordReq s h = false) ∧ unChoice s = some g := by
  rw [arbChoice, Option.or_eq_some_iff, ordChoice_eq_some, ordChoice_eq_none]

theorem arbChoice_lt {s : State} {g : Nat} (h : arbChoice s = some g) : g < s.cfg.n := by
  rcases arbChoice_eq_some.mp h with ⟨hg, -⟩ | ⟨-, hun⟩
  · exact hg
  · exact roundRobin_lt hun

theorem handedOff_eq_some {s : State} {g : Nat} : handedOff s = some g ↔ s.inp.beReqReady = true ∧ arbChoice s = some g := by
  simp [handedOff]

/-- A slot has been handed off in a cycle exactly if the arbiter chose it and the channel was ready (R237). -/
theorem fire_after_cycle {s m : State} {i : Nat} (h : runSites (schedule s.cfg) (sample s) = .next m) :
    fire m i = true ↔ handedOff (sample s) = some i := by
  rw [fire, (arbiterTurn_after_cycle h).handoff]
  cases hoff : handedOff (sample s) with
  | none => simp [Wires.idle]
  | some g =>
    have hg : g < s.cfg.n := arbChoice_lt (s := sample s) (handedOff_eq_some.mp hoff).2
    by_cases hgi : g = i
    · subst hgi
      simp [Wires.idle, hg]
    · simp [Wires.idle, hgi]

/-- The message on the channel carries the tag of the arbiter's choice (R235). -/
theorem tag_after_cycle {s m : State} {i : Nat} (h : runSites (schedule s.cfg) (sample s) = .next m) :
    (∃ b, m.out.beReq = some b ∧ b.tag = i) ↔ arbChoice (sample s) = some i := by
  rw [(arbiterTurn_after_cycle h).offer]
  constructor
  · rintro ⟨b, hb, rfl⟩
    obtain ⟨g, hg, rfl⟩ := Option.map_eq_some_iff.mp hb
    exact hg
  · exact fun hi => ⟨beReq (sample s) i, by rw [hi, Option.map_some], rfl⟩

/-- Settles O42: what is handed off is the arbiter's one choice, which is an ordered slot if there is an eligible one. -/
theorem oneHandoff : Obligations.OneHandoff := by
  intro s t hstep
  obtain ⟨m, hrun, rfl⟩ := step_eq_next.mp hstep
  refine ⟨fun i _ => ?_, fun i j hi hj => ?_, fun i h hi hcls hh => ?_⟩
  · rw [commit_out, tag_after_cycle hrun]
    exact (fire_after_cycle hrun).trans handedOff_eq_some
  · exact Option.some.inj (((fire_after_cycle hrun).mp hi).symm.trans ((fire_after_cycle hrun).mp hj))
  · obtain ⟨-, hchoice⟩ := handedOff_eq_some.mp ((fire_after_cycle hrun).mp hi)
    rcases arbChoice_eq_some.mp hchoice with ⟨-, hreq, -⟩ | ⟨hnone, -⟩
    · obtain ⟨-, hord, -⟩ := ordReq_iff.mp hreq
      simp [hcls] at hord
    · exact hnone h hh

/-- Settles O43: the message is that of the arbiter's choice, and an ordered choice, a busy channel or an idle arbiter leaves
the pointer. -/
theorem arbiterOffer : Obligations.ArbiterOffer := by
  intro s t hstep
  obtain ⟨m, hrun, rfl⟩ := step_eq_next.mp hstep
  have hturn := arbiterTurn_after_cycle hrun
  have hpointer : (commit m).regs.rrLast = _ := hturn.pointer
  refine ⟨fun g hg => ?_, fun hnone => ?_⟩
  · have hord : ordChoice (sample s) = some g := ordChoice_eq_some.mpr hg
    have hchoice : arbChoice (sample s) = some g := by rw [arbChoice, hord, Option.some_or]
    rw [hord, Option.isSome_some, if_pos rfl] at hpointer
    exact ⟨by rw [commit_out, hturn.offer, hchoice]; rfl, hpointer⟩
  have hord : ordChoice (sample s) = none := ordChoice_eq_none.mpr hnone
  refine ⟨fun g hg => ?_, fun hidle => ?_⟩
  · have hchoice : arbChoice (sample s) = some g := by
      rw [arbChoice, hord, Option.none_or]
      exact hg
    rw [hord, Option.isSome_none, if_neg nofun, handedOff, hchoice] at hpointer
    refine ⟨by rw [commit_out, hturn.offer, hchoice]; rfl, hpointer.trans ?_⟩
    cases hready : (nextInput s).beReqReady <;> simp [hready]
  · have hchoice : arbChoice (sample s) = none := by
      rw [arbChoice, hord, Option.none_or]
      exact roundRobin_eq_none hidle
    rw [hord, Option.isSome_none, if_neg nofun, handedOff, hchoice, ite_self] at hpointer
    exact ⟨by rw [commit_out, hturn.offer, hchoice]; rfl, hpointer⟩

end Sys2Proof.Machine
end

section
/-!
The response router (45_router.md): its operations and the signals that pick them (O16), the delivery vector of a cycle
(O45), and when a cycle sets `StaleResponse` (O47).
-/
namespace Sys2Proof.Machine

/-! ## The router's operations -/

/-- The router performs the operation that its signals pick (R104). -/
theorem performs_response (s : State) :
    Performs s ⟨.rs, 0⟩
      (if s.inp.resp.valid then if awaiting s then .respDeliver else .respStale else .respNone (awaiting s)) :=
  ⟨rfl, decode_eq_ok.mpr ⟨Nat.one_pos, rsWord_lt .., nofun, (tableOp_response s 0).symm⟩⟩

/-- Settles O16: each rule writes the delivery vector, and the stale one its mark too; a valid response is delivered or stale
by whether its slot awaits one. -/
theorem responseOperations : Obligations.ResponseOperations := by
  intro s
  have hperf := performs_response s
  refine ⟨fun htag => onSlot_of_lt htag, rfl, fun _ => rfl, fun hvalid htag hst => ?_, fun hvalid hnot => ?_,
    fun hinvalid => ?_⟩
  · rwa [if_pos hvalid, if_pos (awaiting_iff.mpr ⟨htag, hst⟩)] at hperf
  · rwa [if_pos hvalid, if_neg (mt awaiting_iff.mp hnot)] at hperf
  · rwa [if_neg (by simp [hinvalid])] at hperf

/-! ## Over a cycle -/

/-- Settles O45: the delivery vector is what the router's turn made of it. -/
theorem deliveryVector : Obligations.DeliveryVector := by
  intro s t hstep i hi
  obtain ⟨m, hrun, rfl⟩ := step_eq_next.mp hstep
  exact respHit_after_cycle (m := m) hi hrun

/-- Of the router's operations a valid response that no slot awaits picks the one that sets `StaleResponse` (R253). -/
theorem markOf_response {s : State} {k : Nat} :
    markOf (tableOp s.cfg ⟨.rs, k⟩ (selector s ⟨.rs, k⟩)) = some (.fault .staleResponse) ↔
      s.inp.resp.valid = true ∧ ¬(s.inp.resp.tag < s.cfg.n ∧ (s.slot s.inp.resp.tag).st = .resp) := by
  rw [tableOp_response, ← awaiting_iff]
  split_ifs <;> simp_all [markOf]

/-- What the router's mark depends on is in the start-of-cycle view (R130). -/
theorem markOf_response_of_view {s m : State} {k : Nat} (h : SameView (sample s) m) :
    markOf (tableOp m.cfg ⟨.rs, k⟩ (selector m ⟨.rs, k⟩)) = some (.fault .staleResponse) ↔
      (nextInput s).resp.valid = true
        ∧ ¬((nextInput s).resp.tag < s.cfg.n ∧ (s.slot (nextInput s).resp.tag).st = .resp) := by
  have ⟨hcfg, _, _, hinp, _⟩ := h
  rw [markOf_response, sameView_slot h, hcfg, hinp, sample_cfg, sample_inp]

/-- In a cycle it is a valid response that no slot awaits, and nothing else, that sets `StaleResponse` (R253). -/
theorem markSet_staleResponse {s t : State} (hstep : step s = .next t) :
    MarkSet (schedule s.cfg) (sample s) (.fault .staleResponse) ↔
      (nextInput s).resp.valid = true
        ∧ ¬((nextInput s).resp.tag < s.cfg.n ∧ (s.slot (nextInput s).resp.tag).st = .resp) := by
  constructor
  · rintro ⟨pre, ⟨u, k⟩, post, m, i, -, hrun, hperf, hmark⟩
    obtain ⟨hu, -, rfl⟩ := eq_tableOp_of_performs hperf hmark
    obtain rfl : u = .rs := by simpa [Mark.tables] using hu
    exact (markOf_response_of_view (runSites_view hrun)).mp hmark
  · intro hstale
    obtain ⟨m, hrun, -⟩ := step_eq_next.mp hstep
    obtain ⟨pre, post, p, q, hsplit, -, -, hp, hq, -⟩ := exists_turn (x := ⟨.rs, 0⟩) Nat.one_pos hrun
    exact ⟨pre, ⟨.rs, 0⟩, post, p, _, hsplit, hp, (exec_of_active rfl hq).1,
      (markOf_response_of_view (runSites_view hp)).mpr hstale⟩

/-- Settles O47: the router alone sets the mark; under the contract of the channel it has no stale response to set it for. -/
theorem staleResponses : Obligations.StaleResponses := by
  intro s t hstep
  refine ⟨?_, fun hcontract => ?_⟩
  · rw [← markSet_staleResponse hstep]
    exact step_marked hstep (.fault .staleResponse)
  · refine marked_eq_of_not_markSet (k := .fault .staleResponse) hstep fun hset => ?_
    obtain ⟨hvalid, hnot⟩ := (markSet_staleResponse hstep).mp hset
    exact hnot (hcontract hvalid)

end Sys2Proof.Machine
end

section
/-!
A response is seen by the slot its tag names and by no other (R255; O46). A run of components is set beside the same run under
a response with other data and another error flag: at every point the two differ in these inputs and, at most, in the next
value of the slot that the tag names.
-/
namespace Sys2Proof.Machine

/-! ## Lists that agree off one index -/

/-- The two lists have the same entries, but for the one at `k`. -/
def AgreeOff {α : Type} (k : Nat) (l l' : List α) : Prop := ∀ j, j ≠ k → l'[j]? = l[j]?

section
variable {α : Type} {k : Nat} {l l' : List α}

theorem AgreeOff.refl (k : Nat) (l : List α) : AgreeOff k l l := fun _ _ => rfl

theorem AgreeOff.modify (h : AgreeOff k l l') (i : Nat) (f : α → α) : AgreeOff k (l.modify i f) (l'.modify i f) := by
  intro j hj
  rw [List.getElem?_modify, List.getElem?_modify, h j hj]

/-- The entry at the index itself may be written differently. -/
theorem AgreeOff.modify_self (h : AgreeOff k l l') (f g : α → α) : AgreeOff k (l.modify k f) (l'.modify k g) := by
  intro j hj
  rw [List.getElem?_modify_ne _ _ hj.symm, List.getElem?_modify_ne _ _ hj.symm, h j hj]

theorem AgreeOff.getD (h : AgreeOff k l l') {j : Nat} (hj : j ≠ k) (d : α) : l'.getD j d = l.getD j d := by
  rw [List.getD_eq_getElem?_getD, List.getD_eq_getElem?_getD, h j hj]

end

/-! ## The same point under another response -/

/-- The state with other data and another error flag in the response, and with `slots` as the next values of the slots. -/
def State.reanswered (s : State) (data : Beat) (err : Bool) (slots : List Slot) : State :=
  { s with inp := { s.inp with resp := { s.inp.resp with data := data, err := err } }, nxt := { s.nxt with slots := slots } }

section
variable {data : Beat} {err : Bool} {slots : List Slot} {m n : State}

/-- No selector depends on the response's data and error flag (R99 to R109). -/
theorem active_and_selector_reanswered (m : State) (x : Site) (data : Beat) (err : Bool) (slots : List Slot) :
    active (m.reanswered data err slots) x = active m x ∧ selector (m.reanswered data err slots) x = selector m x := by
  obtain ⟨t, k⟩ := x
  cases t <;> exact ⟨rfl, rfl⟩

/-- An operation of another component than a slot makes the same of the state under either response. -/
theorem exec_reanswered {i : Instr} (hi : (encode m.cfg i).1.table ≠ .ss) (h : exec i m = .next n) :
    exec i (m.reanswered data err slots) = .next (n.reanswered data err slots) := by
  cases i with
  | slotResubmitFault | slotEmpty | slotEnqWrite | idleCancel | idleIssue | idleWait | reqCancel | reqFire | reqStall
  | respDiscardNow | respDiscardPending | respCapture | respMarkCancel | respWait | wbCancel | wbFire | wbHold
  | slotInvariantFault => exact absurd rfl hi
  | respDeliver | szLb | szLh | szLw | szLd | szLbu | szLhu | szLwu | szRsv | beRead =>
    obtain ⟨hk, rfl⟩ := onSlot_eq_next.mp h
    exact if_pos hk
  | subBad | subCapture | subNone | admNone | admBadClass | admFlushed | admExc | admReplay | admUntracked | admEnqOrd
  | admEnqUnord | allocReject | allocNone =>
    obtain ⟨hw, rfl⟩ := onLane_eq_next.mp h
    exact if_pos hw
  | wbUnNone =>
    obtain ⟨hj, rfl⟩ := onPort_eq_next.mp h
    exact if_pos hj
  | arbIdle | respStale | respNone | wbOrdNone | faultNone | rbNone | rbSuppress =>
    cases h
    rfl
  | faultReport | rbArm | arbOrdFire | arbOrdStall | arbUnordFire | arbUnordStall | wbOrdFire | wbOrdHold =>
    obtain ⟨g, hg, rfl⟩ := onChoice_eq_next.mp h
    exact onChoice_of_eq hg
  | arbOrdMultiFault _ r | wbOrdMultiFault _ r =>
    obtain ⟨g, hg, rfl⟩ := onChoice_eq_next.mp h
    cases r <;> exact onChoice_of_eq hg
  | rbTieFault now d1 d2 =>
    obtain ⟨e, he, rfl⟩ := onChoice_eq_next.mp h
    refine (onChoice_of_eq he).trans ?_
    dsimp only
    split <;> rfl
  | allocGrant | wbUnFire | wbUnHold =>
    simp only [exec, execAllocGrant, execWbUnFire, execWbUnHold] at h
    split at h
    next hk =>
      obtain ⟨g, hg, rfl⟩ := onChoice_eq_next.mp h
      exact (if_pos hk).trans (onChoice_of_eq hg)
    next => cases h

/-- A slot's operation makes the same of the state under either response, but for the slot that captures it, which is the one
that the tag names (R162). -/
theorem exec_slot_reanswered {i : Instr} (hi : (encode m.cfg i).1.table = .ss)
    (hcapture : ∀ k, i = .respCapture k → k = m.inp.resp.tag) (hslots : AgreeOff m.inp.resp.tag m.nxt.slots slots)
    (h : exec i m = .next n) :
    ∃ slots', exec i (m.reanswered data err slots) = .next (n.reanswered data err slots')
      ∧ AgreeOff m.inp.resp.tag n.nxt.slots slots' := by
  cases i with
  | slotResubmitFault | slotEmpty | idleWait | reqStall | respWait | wbHold | slotInvariantFault =>
    obtain ⟨hk, rfl⟩ := onSlot_eq_next.mp h
    exact ⟨slots, if_pos hk, hslots⟩
  | idleCancel | idleIssue | reqCancel | reqFire | respDiscardNow | respDiscardPending | respMarkCancel | wbCancel
  | wbFire =>
    obtain ⟨hk, rfl⟩ := onSlot_eq_next.mp h
    exact ⟨_, if_pos hk, hslots.modify _ _⟩
  | respCapture =>
    obtain rfl := hcapture _ rfl
    obtain ⟨hk, rfl⟩ := onSlot_eq_next.mp h
    exact ⟨_, if_pos hk, hslots.modify_self _ _⟩
  | slotEnqWrite =>
    simp only [exec, execSlotEnqWrite] at h
    split at h
    next hk =>
      obtain ⟨w, hw, rfl⟩ := onChoice_eq_next.mp h
      exact ⟨_, (if_pos hk).trans (onChoice_of_eq hw), hslots.modify _ _⟩
    next => cases h
  | _ => cases hi

/-! ## Which slot captures -/

/-- Of the slots only the one that the response names has been delivered it. -/
def DeliversToTag (m : State) : Prop := ∀ k, k < m.cfg.n → respHit m k = true → k = m.inp.resp.tag

theorem deliversToTag_sample (s : State) : DeliversToTag (sample s) := by
  intro k _ hhit
  simp [respHit, Wires.idle] at hhit

theorem DeliversToTag.of_run {xs : List Site} (hm : DeliversToTag m) (h : runSites xs m = .next n) : DeliversToTag n := by
  refine runSites_keeps_framed (P := DeliversToTag) (fun _ _ hp => hp) (fun x _ p p' _ hp he _ hraises => ?_) hm h
  obtain ⟨hcfg, -, -, hinp, -⟩ := exec_snapshot he
  intro k hk hhit
  rw [hcfg] at hk
  rw [hinp]
  by_cases ht : x.table = .rs
  · obtain ⟨t, j⟩ := x
    subst ht
    obtain ⟨-, htag, -⟩ := (exec_response_respHit hk he).mp hhit
    exact htag.symm
  · exact hp k hk (by rwa [respHit, hraises.respHit ht] at hhit)

/-- The signals that pick the capture: the slot waits for its response and has it (R162). -/
theorem slotOp_eq_respCapture {i k : Nat} {st : SlotState} {occ cancel cpend ev en : Bool}
    (h : slotOp i st occ cancel cpend ev en = .respCapture k) : k = i ∧ st = .resp ∧ ev = true := by
  cases occ <;> cases en
  case true.false =>
    cases st
    case resp =>
      simp only [slotOp] at h
      split_ifs at h with hev
      cases h
      exact ⟨rfl, rfl, hev⟩
    all_goals
      simp only [slotOp] at h
      split_ifs at h
  case true.true => cases h
  all_goals
    simp only [slotOp] at h
    split_ifs at h

/-- A slot that captures is the one that the response names. -/
theorem tag_of_respCapture {x : Site} {k : Nat} (hm : DeliversToTag m)
    (hd : decode m.cfg x (selector m x) = .ok (.respCapture k)) : k = m.inp.resp.tag := by
  obtain ⟨t, j⟩ := x
  obtain rfl : .ss = t := encode_table_of_decode hd
  obtain ⟨hj, hop⟩ := eq_tableOp_of_decode hd
  rw [tableOp_slot] at hop
  obtain ⟨rfl, hst, hev⟩ := slotOp_eq_respCapture hop.symm
  rw [progress, hst] at hev
  exact hm k hj hev

/-! ## The run beside the run -/

/-- A component takes the same turn under either response, but for what the slot that the tag names captures. -/
theorem runSite_reanswered {x : Site} (hm : DeliversToTag m) (hslots : AgreeOff m.inp.resp.tag m.nxt.slots slots)
    (h : runSite x m = .next n) :
    ∃ slots', runSite x (m.reanswered data err slots) = .next (n.reanswered data err slots')
      ∧ AgreeOff m.inp.resp.tag n.nxt.slots slots' := by
  obtain ⟨hactive, hselector⟩ := active_and_selector_reanswered m x data err slots
  rcases runSite_eq_next.mp h with ⟨hidle, rfl⟩ | ⟨hturn, i, hd, he⟩
  · exact ⟨slots, runSite_eq_next.mpr (.inl ⟨hactive.trans hidle, rfl⟩), hslots⟩
  suffices hexec : ∃ slots', exec i ((m.noting x).reanswered data err slots) = .next (n.reanswered data err slots')
      ∧ AgreeOff m.inp.resp.tag n.nxt.slots slots' by
    obtain ⟨slots', hrun, hagree⟩ := hexec
    exact ⟨slots', runSite_eq_next.mpr (.inr ⟨hactive.trans hturn, i, hselector ▸ hd, hselector ▸ hrun⟩), hagree⟩
  have htable := encode_table_of_decode hd
  by_cases hss : x.table = .ss
  · refine exec_slot_reanswered (m := m.noting x) (htable.trans hss) (fun k hk => ?_) hslots he
    exact tag_of_respCapture hm (hk ▸ hd)
  · have hkept := (exec_decoded_writesOnly (s := m.noting x) hd he).slots hss
    exact ⟨slots, exec_reanswered (m := m.noting x) (htable.trans_ne hss) he, hkept ▸ hslots⟩

theorem runSites_reanswered {xs : List Site} (hm : DeliversToTag m) (hslots : AgreeOff m.inp.resp.tag m.nxt.slots slots)
    (h : runSites xs m = .next n) :
    ∃ slots', runSites xs (m.reanswered data err slots) = .next (n.reanswered data err slots')
      ∧ AgreeOff m.inp.resp.tag n.nxt.slots slots' := by
  induction xs generalizing m slots with
  | nil =>
    cases h
    exact ⟨slots, rfl, hslots⟩
  | cons x xs ih =>
    obtain ⟨p, hx, hxs⟩ := runSites_cons_eq_next.mp h
    obtain ⟨slots₁, hx', hslots₁⟩ := runSite_reanswered hm hslots hx
    obtain ⟨-, -, -, hinp, -⟩ := runSite_view hx
    have hp : DeliversToTag p := hm.of_run (xs := [x]) (runSites_cons_eq_next.mpr ⟨p, hx, rfl⟩)
    obtain ⟨slots₂, hxs', hslots₂⟩ := ih hp (hinp ▸ hslots₁) hxs
    exact ⟨slots₂, runSites_cons_eq_next.mpr ⟨_, hx', hxs'⟩, hinp ▸ hslots₂⟩

end

/-- The start of a cycle whose coming response has other data and another error flag. -/
theorem sample_reanswered {s : State} {line : Input} {rest : List Input} (hscript : s.script = line :: rest) (data : Beat)
    (err : Bool) :
    sample { s with script := { line with resp := { line.resp with data := data, err := err } } :: rest } =
      (sample s).reanswered data err s.regs.slots := by
  obtain ⟨cfg, t, regs, nxt, faultMark, refused, inp, out, wires, trace, script, env⟩ := s
  obtain rfl : script = line :: rest := hscript
  rfl

/-- Settles O46: the components run beside each other under the two responses, and the boundary takes from the response and
from the slots' next values nothing but the slots. -/
theorem responseStaysInItsSlot : Obligations.ResponseStaysInItsSlot := by
  intro s t line rest data err hscript hstep
  obtain ⟨m, hrun, rfl⟩ := step_eq_next.mp hstep
  obtain ⟨slots, hrun', hslots⟩ :=
    runSites_reanswered (data := data) (err := err) (deliversToTag_sample s) (AgreeOff.refl _ _) hrun
  refine ⟨commit (m.reanswered data err slots), step_eq_next.mpr ⟨_, ?_, rfl⟩, rfl, rfl, rfl, rfl, rfl, fun i hi => ?_⟩
  · rw [sample_reanswered hscript]
    exact hrun'
  · have htag : (nextInput s).resp.tag = line.resp.tag % 2 ^ s.cfg.idxW := by
      rw [nextInput, hscript]
      rfl
    exact hslots.getD (htag ▸ hi) Slot.reset

end Sys2Proof.Machine
end

section
/-!
The operations of the writeback (46_writeback.md), one by one: the shaping of a value by its size (O17), the ordered port
(O18), an unordered port (O19) and the fault output (O20), with the signals that pick each.
-/
namespace Sys2Proof.Machine

/-! ## Shaped values as numbers (R265 to R273) -/

theorem toNat_selected (sl : Slot) : (selected sl).toNat = sl.rdata.toNat / 2 ^ (8 * (sl.req.addr % 8)) := by
  rw [selected, subShift, BitVec.toNat_ushiftRight, Nat.shiftRight_eq_div_pow]

theorem toNat_low (sel : Beat) (k : Nat) : (sel.extractLsb' 0 k).toNat = sel.toNat % 2 ^ k := by
  rw [BitVec.extractLsb'_toNat, Nat.shiftRight_zero]

/-- The low `k` bits, sign-extended, stand for the number that they are in two's complement. -/
theorem signExtend_low (sel : Beat) (k : Nat) :
    (sel.extractLsb' 0 k).signExtend 64 = BitVec.ofInt 64 (Int.bmod sel.toNat (2 ^ k)) := by
  rw [BitVec.signExtend, BitVec.toInt_eq_toNat_bmod, toNat_low, Int.natCast_emod, Int.emod_bmod]

/-- The low `k` bits, zero-extended, stand for the number that they are. -/
theorem setWidth_low (sel : Beat) (k : Nat) :
    (sel.extractLsb' 0 k).setWidth 64 = BitVec.ofInt 64 (sel.toNat % 2 ^ k : Nat) := by
  rw [BitVec.ofInt_natCast, ← toNat_low, BitVec.ofNat_toNat]

theorem shapeLb_eq (sel : Beat) : shapeLb sel = BitVec.ofInt 64 (shapedInt 0 sel.toNat) := by
  simp [shapeLb, signExtend_low, shapedInt]

theorem shapeLh_eq (sel : Beat) : shapeLh sel = BitVec.ofInt 64 (shapedInt 1 sel.toNat) := by
  simp [shapeLh, signExtend_low, shapedInt]

theorem shapeLw_eq (sel : Beat) : shapeLw sel = BitVec.ofInt 64 (shapedInt 2 sel.toNat) := by
  simp [shapeLw, signExtend_low, shapedInt]

theorem shapeLbu_eq (sel : Beat) : shapeLbu sel = BitVec.ofInt 64 (shapedInt 4 sel.toNat) := by
  simp [shapeLbu, setWidth_low, shapedInt]

theorem shapeLhu_eq (sel : Beat) : shapeLhu sel = BitVec.ofInt 64 (shapedInt 5 sel.toNat) := by
  simp [shapeLhu, setWidth_low, shapedInt]

theorem shapeLwu_eq (sel : Beat) : shapeLwu sel = BitVec.ofInt 64 (shapedInt 6 sel.toNat) := by
  simp [shapeLwu, setWidth_low, shapedInt]

/-- The double word and the reserved size take the whole of the selected bytes. -/
theorem shapeLd_eq {size : SizeCode} (h : size = 3 ∨ size = 7) (sel : Beat) :
    shapeLd sel = BitVec.ofInt 64 (shapedInt size sel.toNat) := by
  have hwhole : BitVec.ofInt 64 (sel.toNat : Nat) = sel := by
    rw [BitVec.ofInt_natCast, BitVec.ofNat_toNat, BitVec.setWidth_eq]
  rcases h with rfl | rfl <;> exact hwhole.symm

/-! ## Shaping (R106, R266 to R273) -/

/-- The shaping operation of slot `i` for a size, in the order of the codes of R93. -/
def shapeOp (i : Nat) (size : SizeCode) : Instr :=
  if size = 0 then .szLb i
  else if size = 1 then .szLh i
  else if size = 2 then .szLw i
  else if size = 3 then .szLd i
  else if size = 4 then .szLbu i
  else if size = 5 then .szLhu i
  else if size = 6 then .szLwu i
  else .szRsv i

theorem mem_sizeCodes (size : SizeCode) : size ∈ [(0 : SizeCode), 1, 2, 3, 4, 5, 6, 7] := by
  revert size
  decide

theorem decodeShape_size (c : Config) (i : Nat) (size : SizeCode) : decodeShape c i size.toNat = shapeOp i size := by
  have hsize := mem_sizeCodes size
  fin_cases hsize <;> rfl

theorem tableOp_shape (s : State) (i : Nat) :
    tableOp s.cfg ⟨.sz, i⟩ (selector s ⟨.sz, i⟩) = shapeOp i (s.slot i).req.size :=
  decodeShape_size ..

/-- What the operation of a size makes of the slot's captured data: the word of the shaped number, and for the reserved size
the mark too. -/
theorem exec_shapeOp (s : State) (i : Nat) (size : SizeCode) :
    exec (shapeOp i size) s = onSlot s i ((if size = 7 then s.refuse .badSize else s).setShaped i
      (BitVec.ofInt 64 (shapedInt size ((s.slot i).rdata.toNat / 2 ^ (8 * ((s.slot i).req.addr % 8)))))) := by
  have hshape (t : State) {d e : Beat} (h : d = e) : onSlot s i (t.setShaped i d) = onSlot s i (t.setShaped i e) := by rw [h]
  rw [← toNat_selected]
  have hsize := mem_sizeCodes size
  fin_cases hsize
  · exact hshape s (shapeLb_eq _)
  · exact hshape s (shapeLh_eq _)
  · exact hshape s (shapeLw_eq _)
  · exact hshape s (shapeLd_eq (.inl rfl) _)
  · exact hshape s (shapeLbu_eq _)
  · exact hshape s (shapeLhu_eq _)
  · exact hshape s (shapeLwu_eq _)
  · exact hshape (s.refuse .badSize) (shapeLd_eq (.inr rfl) _)

/-- An offered slot of the block performs the shaping of its size (R106). -/
theorem performs_shape {s : State} {i : Nat} {size : SizeCode} (hi : i < s.cfg.n) (hoffer : offered s i = true)
    (hsize : (s.slot i).req.size = size) : Performs s ⟨.sz, i⟩ (shapeOp i size) := by
  refine ⟨hoffer, decode_eq_ok.mpr ⟨hi, (s.slot i).req.size.isLt, nofun, ?_⟩⟩
  rw [tableOp_shape, hsize]

/-- Settles O17: the rows are those of `shapeOp`, whose value is the shaped number. -/
theorem outputShaping : Obligations.OutputShaping := by
  intro s i hi
  have hexec (size : SizeCode) := (exec_shapeOp s i size).trans (onSlot_of_lt hi)
  refine ⟨fun p hp => ?_, hexec 7, performs_shape hi⟩
  fin_cases hp
  · exact ⟨hexec 0, performs_shape hi⟩
  · exact ⟨hexec 1, performs_shape hi⟩
  · exact ⟨hexec 2, performs_shape hi⟩
  · exact ⟨hexec 3, performs_shape hi⟩
  · exact ⟨hexec 4, performs_shape hi⟩
  · exact ⟨hexec 5, performs_shape hi⟩
  · exact ⟨hexec 6, performs_shape hi⟩

/-! ## The ordered port (R260 to R262, R276, R277) -/

theorem ordOffer_eq_some {s : State} {o : Nat} : ordOffer s = some o ↔ LeastIndex s.cfg.n (ordWb s) o := leastBelow_eq_some

theorem ordWbAny_eq_false {s : State} : ordWbAny s = false ↔ ∀ h, h < s.cfg.n → ordWb s h = false := by
  rw [← leastBelow_eq_none, ordWbAny, ← leastBelow_isSome, Option.isSome_eq_false_iff, Option.isNone_iff_eq_none]

theorem ordWbMulti_iff {s : State} :
    ordWbMulti s = true ↔ ∃ i j, i < j ∧ j < s.cfg.n ∧ ordWb s i = true ∧ ordWb s j = true := by
  rw [ordWbMulti, decide_eq_true_eq, one_lt_countBelow]

/-- Two indices have a property exactly if one other than the least has it. -/
theorem exists_pair_iff_other {n g : Nat} {p : Nat → Bool} (hg : LeastIndex n p g) :
    (∃ i j, i < j ∧ j < n ∧ p i = true ∧ p j = true) ↔ ∃ h, h ≠ g ∧ h < n ∧ p h = true := by
  obtain ⟨-, hpg, hleast⟩ := hg
  have hle (k : Nat) (hk : p k = true) : g ≤ k := Nat.le_of_not_lt fun hlt => by simp [hleast k hlt] at hk
  constructor
  · rintro ⟨i, j, hij, hj, hi, hpj⟩
    exact ⟨j, (Nat.lt_of_le_of_lt (hle i hi) hij).ne', hj, hpj⟩
  · rintro ⟨h, hne, hh, hph⟩
    exact ⟨g, h, lt_of_le_of_ne (hle h hph) hne.symm, hh, hpg, hph⟩

/-- The ordered port performs the operation that its signals pick (R105). -/
theorem performs_wbOrd (s : State) :
    Performs s ⟨.wo, 0⟩
      (if ordWbMulti s then .wbOrdMultiFault (ordWbAny s) s.inp.wbOrdReady
       else if ordWbAny s then if s.inp.wbOrdReady then .wbOrdFire else .wbOrdHold else .wbOrdNone s.inp.wbOrdReady) :=
  ⟨rfl, decode_eq_ok.mpr ⟨Nat.one_pos, woWord_lt .., nofun, (tableOp_wbOrd s 0).symm⟩⟩

/-- Settles O18: the least ordered completion is the one that each rule offers; a second one picks the fault row. -/
theorem orderedWriteback : Obligations.OrderedWriteback := by
  intro s
  have hperf := performs_wbOrd s
  refine ⟨fun o ho => ?_, fun _ => rfl, fun hnone => ?_⟩
  · have hoffer := ordOffer_eq_some.mpr ho
    have hmulti := ordWbMulti_iff.trans (exists_pair_iff_other ho)
    have ⟨hon, hwb, _⟩ := ho
    have hany : ordWbAny s = true := anyBelow_iff.mpr ⟨o, hon, hwb⟩
    refine ⟨onChoice_of_eq hoffer, onChoice_of_eq hoffer, fun _ => onChoice_of_eq hoffer, fun _ => onChoice_of_eq hoffer,
      fun hother => ?_, fun honly => ?_⟩
    · rwa [if_pos (hmulti.mpr hother), hany] at hperf
    · rwa [if_neg (mt hmulti.mp fun ⟨h, hne, hh, hwbh⟩ => hne (honly h hh hwbh)), if_pos hany] at hperf
  · have hany := ordWbAny_eq_false.mpr hnone
    rwa [if_neg (mt ordWbAny_of_ordWbMulti (by simp [hany])), if_neg (by simp [hany])] at hperf

/-! ## An unordered port (R263, R264, R278, R279) -/

theorem unOffer_eq_some {s : State} {j u : Nat} : unOffer s j = some u ↔ LeastIndex s.cfg.n (unWbOn s j) u :=
  leastBelow_eq_some

theorem unAny_eq_false {s : State} {j : Nat} : unAny s j = false ↔ ∀ h, h < s.cfg.n → unWbOn s j h = false := by
  rw [← leastBelow_eq_none, unAny, ← leastBelow_isSome, Option.isSome_eq_false_iff, Option.isNone_iff_eq_none]

/-- An unordered port of the block performs the operation that its signals pick (R105). -/
theorem performs_wbUnord {s : State} {j : Nat} (hj : j < s.cfg.p) :
    Performs s ⟨.wu, j⟩
      (if unAny s j then if unReady s j then .wbUnFire j else .wbUnHold j else .wbUnNone j (unReady s j)) :=
  ⟨rfl, decode_eq_ok.mpr ⟨hj, wuWord_lt .., nofun, (tableOp_wbUnord s j).symm⟩⟩

/-- Settles O19: the least completion of the port's partition is the one that each rule offers. -/
theorem unorderedWriteback : Obligations.UnorderedWriteback := by
  intro s j hj
  have hperf := performs_wbUnord hj
  refine ⟨fun u hu => ?_, fun _ => if_pos hj, fun hnone => ?_⟩
  · have hoffer := unOffer_eq_some.mpr hu
    have ⟨hun, hwb, _⟩ := hu
    have hany : unAny s j = true := anyBelow_iff.mpr ⟨u, hun, hwb⟩
    rw [if_pos hany] at hperf
    exact ⟨(if_pos hj).trans (onChoice_of_eq hoffer), (if_pos hj).trans (onChoice_of_eq hoffer), hperf⟩
  · rwa [if_neg (by simp [unAny_eq_false.mpr hnone])] at hperf

/-! ## The fault output (R280, R281) -/

theorem faultAny_eq_false {s : State} : faultAny s = false ↔ ∀ i, i < s.cfg.n → faulting s i = false := by
  rw [← leastBelow_eq_none, faultAny, ← leastBelow_isSome, Option.isSome_eq_false_iff, Option.isNone_iff_eq_none]

theorem tableOp_faultOut (s : State) (k : Nat) :
    tableOp s.cfg ⟨.fo, k⟩ (selector s ⟨.fo, k⟩) = if faultAny s then .faultReport else .faultNone := by
  simp only [tableOp, selector, selFaultOut]
  cases faultAny s <;> rfl

/-- The fault output performs the operation that its signal picks (R107). -/
theorem performs_faultOut (s : State) : Performs s ⟨.fo, 0⟩ (if faultAny s then .faultReport else .faultNone) :=
  ⟨rfl, decode_eq_ok.mpr ⟨Nat.one_pos, bitNat_lt _, nofun, (tableOp_faultOut s 0).symm⟩⟩

/-- The Request of a slot with a back-end error has its fault set in the Result (R274). -/
theorem res_req_of_faulting {s : State} {f : Nat} (h : faulting s f = true) :
    (res s f).req = { (s.slot f).req with fault := true } := by
  obtain ⟨-, herr⟩ := Bool.and_eq_true_iff.mp h
  simp only [res, flt, herr, Bool.or_true]

/-- Settles O20: the least faulting slot is the one that the rule reports. -/
theorem faultReporting : Obligations.FaultReporting := by
  intro s
  have hperf := performs_faultOut s
  refine ⟨fun f hf => ?_, rfl, fun hnone => ?_⟩
  · have ⟨hfn, hfault, _⟩ := hf
    have hany : faultAny s = true := anyBelow_iff.mpr ⟨f, hfn, hfault⟩
    rw [if_pos hany] at hperf
    refine ⟨?_, hperf⟩
    rw [← res_req_of_faulting hfault]
    exact onChoice_of_eq (leastBelow_eq_some.mpr hf)
  · rwa [if_neg (by simp [faultAny_eq_false.mpr hnone])] at hperf

end Sys2Proof.Machine
end

section
/-!
The writeback over a cycle (R260 to R281): what the ports' turns leave on the outputs (O50) and in the acceptances (O51), and
what the fault output makes of these (O52).
-/
namespace Sys2Proof.Machine

/-! ## Which table writes them -/

/-- From `s` to `s'` only what the operations of table `t` write has changed, of the shaped values (R265) and of the outputs
of the writeback (R260, R261, R263, R280). -/
structure CarriesOnly (t : Table) (s s' : State) : Prop where
  shaped : t ≠ .sz → s'.wires.shaped = s.wires.shaped
  wbOrd : t ≠ .wo → s'.out.wbOrd = s.out.wbOrd
  wbOrdRaw : t ≠ .wo → s'.out.wbOrdRaw = s.out.wbOrdRaw
  wbUn : t ≠ .wu → s'.out.wbUn = s.out.wbUn
  faultOut : t ≠ .fo → s'.out.faultOut = s.out.faultOut

/-- A mark is none of the parts. -/
theorem CarriesOnly.of_raise {t : Table} {s s' : State} {r : FaultReason} (h : CarriesOnly t (s.raise r) s') :
    CarriesOnly t s s' :=
  ⟨h.shaped, h.wbOrd, h.wbOrdRaw, h.wbUn, h.faultOut⟩

theorem handoff_carriesOnly (s : State) (g : Nat) (r : Bool) : CarriesOnly .ar s (s.handoff g r) := by
  cases r <;> constructor <;> simp [State.handoff]

theorem drainOrd_carriesOnly (s : State) (o : Nat) (r : Bool) : CarriesOnly .wo s (s.drainOrd o r) := by
  cases r <;> constructor <;> simp [State.drainOrd]

theorem drainUn_carriesOnly (s : State) (j u : Nat) (r : Bool) : CarriesOnly .wu s (s.drainUn j u r) := by
  cases r <;> constructor <;> simp [State.drainUn]

/-- Every operation carries only what its table carries. -/
theorem exec_carriesOnly {i : Instr} {s s' : State} (h : exec i s = .next s') :
    CarriesOnly (encode s.cfg i).1.table s s' := by
  cases i with
  | slotResubmitFault | slotEmpty | idleCancel | idleIssue | idleWait | reqCancel | reqFire | reqStall | respDiscardNow
  | respDiscardPending | respCapture | respMarkCancel | respWait | wbCancel | wbFire | wbHold | slotInvariantFault
  | respDeliver | szLb | szLh | szLw | szLd | szLbu | szLhu | szLwu | szRsv | beRead =>
    obtain ⟨-, rfl⟩ := onSlot_eq_next.mp h
    constructor <;> simp [encode, State.freeSlot]
  | subBad | subCapture | subNone | admNone | admBadClass | admFlushed | admExc | admReplay | admUntracked | admEnqOrd
  | admEnqUnord | allocReject | allocNone =>
    obtain ⟨-, rfl⟩ := onLane_eq_next.mp h
    constructor <;> simp
  | wbUnNone =>
    obtain ⟨-, rfl⟩ := onPort_eq_next.mp h
    constructor <;> simp [encode]
  | slotEnqWrite | allocGrant =>
    simp only [exec, execSlotEnqWrite, execAllocGrant] at h
    split at h
    · obtain ⟨g, -, rfl⟩ := onChoice_eq_next.mp h
      constructor <;> simp
    · cases h
  | arbOrdMultiFault _ r =>
    obtain ⟨g, -, rfl⟩ := onChoice_eq_next.mp h
    exact (handoff_carriesOnly (s.raise .ordMulti) g r).of_raise
  | arbOrdFire | arbOrdStall | arbUnordStall =>
    obtain ⟨g, -, rfl⟩ := onChoice_eq_next.mp h
    exact handoff_carriesOnly s g _
  | arbUnordFire =>
    obtain ⟨g, -, rfl⟩ := onChoice_eq_next.mp h
    constructor <;> simp [State.handoff]
  | wbOrdMultiFault _ r =>
    obtain ⟨o, -, rfl⟩ := onChoice_eq_next.mp h
    exact (drainOrd_carriesOnly (s.raise .wbOrdMulti) o r).of_raise
  | wbOrdFire | wbOrdHold =>
    obtain ⟨o, -, rfl⟩ := onChoice_eq_next.mp h
    exact drainOrd_carriesOnly s o _
  | wbUnFire | wbUnHold =>
    simp only [exec, execWbUnFire, execWbUnHold] at h
    split at h
    · obtain ⟨u, -, rfl⟩ := onChoice_eq_next.mp h
      exact drainUn_carriesOnly s _ u _
    · cases h
  | faultReport | rbArm =>
    obtain ⟨g, -, rfl⟩ := onChoice_eq_next.mp h
    constructor <;> simp [encode, State.armRb]
  | rbTieFault =>
    obtain ⟨e, -, rfl⟩ := onChoice_eq_next.mp h
    dsimp only
    split <;> constructor <;> simp [State.armRb, State.disarmRb]
  | arbIdle | respStale | respNone | wbOrdNone | faultNone | rbNone | rbSuppress =>
    cases h
    constructor <;> simp [encode, State.disarmRb]

theorem exec_tableOp_carriesOnly {s s' : State} {x : Site} {w : Nat} (h : exec (tableOp s.cfg x w) s = .next s') :
    CarriesOnly x.table s s' :=
  encode_tableOp_table s.cfg x w ▸ exec_carriesOnly h

/-! ## The turns -/

/-- The shaping of a slot forms the value of its Result (R265 to R273). -/
theorem exec_shape {s s' : State} {k : Nat} (h : exec (tableOp s.cfg ⟨.sz, k⟩ (selector s ⟨.sz, k⟩)) s = .next s') :
    s'.wires.shaped = s.wires.shaped.set k (shapedValue (s.slot k)) := by
  rw [tableOp_shape, exec_shapeOp] at h
  obtain ⟨-, rfl⟩ := onSlot_eq_next.mp h
  split <;> rfl

/-- From `s` to `s'` the ordered port carries what it offers, and a ready consumer accepts it (R260, R261, R275). -/
structure OrdTurn (s s' : State) : Prop where
  result : s'.out.wbOrd = (ordOffer s).map (res s)
  raw : s'.out.wbOrdRaw = (ordOffer s).map (wbRaw s)
  accept : s.inp.wbOrdReady = true → ∀ o, ordOffer s = some o → s'.wires.wbFire = s.wires.wbFire.set o true

/-- A mark is none of the port's signals. -/
theorem OrdTurn.of_raise {s s' : State} {r : FaultReason} (h : OrdTurn (s.raise r) s') : OrdTurn s s' :=
  ⟨h.result, h.raw, h.accept⟩

theorem ordTurn_drain {s : State} {o : Nat} {r : Bool} (hr : s.inp.wbOrdReady = r) (ho : ordOffer s = some o) :
    OrdTurn s (s.drainOrd o r) := by
  cases r <;> constructor <;> simp [State.drainOrd, ho, hr]

/-- What the ordered port's operation does, whichever its signals pick (R260, R262, R276, R277). -/
theorem exec_wbOrd_turn {s s' : State} {k : Nat}
    (h : exec (tableOp s.cfg ⟨.wo, k⟩ (selector s ⟨.wo, k⟩)) s = .next s') : OrdTurn s s' := by
  rw [tableOp_wbOrd] at h
  split_ifs at h with hmulti hany hready
  · obtain ⟨o, ho, rfl⟩ := onChoice_eq_next.mp h
    exact (ordTurn_drain (s := s.raise .wbOrdMulti) rfl ho).of_raise
  · obtain ⟨o, ho, rfl⟩ := onChoice_eq_next.mp h
    exact ordTurn_drain hready ho
  · obtain ⟨o, ho, rfl⟩ := onChoice_eq_next.mp h
    exact ordTurn_drain (Bool.eq_false_of_not_eq_true hready) ho
  · cases h
    have hnone : ordOffer s = none := leastBelow_eq_none.mpr (ordWbAny_eq_false.mp (Bool.eq_false_of_not_eq_true hany))
    constructor <;> simp [hnone]

theorem ordTurn_of_run {p q : State} {k : Nat} (h : runSite ⟨.wo, k⟩ p = .next q) : OrdTurn p q :=
  have hturn := exec_wbOrd_turn (exec_of_active rfl h).2
  ⟨hturn.result, hturn.raw, hturn.accept⟩

/-- From `s` to `s'` the unordered port `j` carries what it offers, and a ready consumer accepts it (R263, R275). -/
structure UnTurn (j : Nat) (s s' : State) : Prop where
  result : s'.out.wbUn = s.out.wbUn.set j ((unOffer s j).map (res s))
  accept : unReady s j = true → ∀ u, unOffer s j = some u → s'.wires.wbFire = s.wires.wbFire.set u true

theorem unTurn_drain {s : State} {j u : Nat} {r : Bool} (hr : unReady s j = r) (hu : unOffer s j = some u) :
    UnTurn j s (s.drainUn j u r) := by
  cases r <;> constructor <;> simp [State.drainUn, hu, hr]

/-- What an unordered port's operation does, whichever its signals pick (R263, R278, R279). -/
theorem exec_wbUnord_turn {s s' : State} {j : Nat}
    (h : exec (tableOp s.cfg ⟨.wu, j⟩ (selector s ⟨.wu, j⟩)) s = .next s') : UnTurn j s s' := by
  rw [tableOp_wbUnord] at h
  split_ifs at h with hany hready
  · simp only [exec, execWbUnFire] at h
    split at h
    · obtain ⟨u, hu, rfl⟩ := onChoice_eq_next.mp h
      exact unTurn_drain hready hu
    · cases h
  · simp only [exec, execWbUnHold] at h
    split at h
    · obtain ⟨u, hu, rfl⟩ := onChoice_eq_next.mp h
      exact unTurn_drain (Bool.eq_false_of_not_eq_true hready) hu
    · cases h
  · obtain ⟨-, rfl⟩ := onPort_eq_next.mp h
    have hnone : unOffer s j = none := leastBelow_eq_none.mpr (unAny_eq_false.mp (Bool.eq_false_of_not_eq_true hany))
    constructor <;> simp [hnone]

theorem unTurn_of_run {p q : State} {j : Nat} (h : runSite ⟨.wu, j⟩ p = .next q) : UnTurn j p q :=
  have hturn := exec_wbUnord_turn (exec_of_active rfl h).2
  ⟨hturn.result, hturn.accept⟩

/-- The fault output reports the least faulting slot, if there is one (R280, R281). -/
theorem exec_faultOut {s s' : State} {k : Nat} (h : exec (tableOp s.cfg ⟨.fo, k⟩ (selector s ⟨.fo, k⟩)) s = .next s') :
    s'.out.faultOut = (leastBelow s.cfg.n (faulting s)).map fun f => { (s.slot f).req with fault := true } := by
  rw [tableOp_faultOut] at h
  split_ifs at h with hany
  · obtain ⟨f, hf, rfl⟩ := onChoice_eq_next.mp h
    obtain ⟨-, hfault, -⟩ := leastBelow_eq_some.mp hf
    rw [hf, State.driveFaultOut_out, res_req_of_faulting hfault, Option.map_some]
  · cases h
    have hnone := leastBelow_eq_none.mpr (faultAny_eq_false.mp (Bool.eq_false_of_not_eq_true hany))
    rw [hnone, State.driveFaultOut_out, Option.map_none]

theorem faultOut_of_run {p q : State} {k : Nat} (h : runSite ⟨.fo, k⟩ p = .next q) :
    q.out.faultOut = (leastBelow p.cfg.n (faulting p)).map fun f => { (p.slot f).req with fault := true } :=
  exec_faultOut (s := p.noting ⟨.fo, k⟩) (exec_of_active rfl h).2

/-! ## The order of the turns -/

/-- The components take their turns in the order of the phases (R135). -/
theorem pairwise_phases (c : Config) :
    (schedule c).Pairwise fun x y => phaseOrder.idxOf x.table ≤ phaseOrder.idxOf y.table := by
  refine List.pairwise_flatMap.mpr ⟨fun t _ => List.pairwise_of_forall_mem_list fun x hx y hy => ?_, ?_⟩
  · rw [(mem_sitesOf.mp hx).1, (mem_sitesOf.mp hy).1]
  · have hphases : phaseOrder.Pairwise fun t u => phaseOrder.idxOf t ≤ phaseOrder.idxOf u := by decide
    refine hphases.imp fun htu x hx y hy => ?_
    rwa [(mem_sitesOf.mp hx).1, (mem_sitesOf.mp hy).1]

/-- After a component's turn, and in it, no component of an earlier phase has its turn. -/
theorem table_ne_of_later {c : Config} {pre post : List Site} {t u : Table} {k : Nat}
    (hsplit : schedule c = pre ++ ⟨u, k⟩ :: post) (ht : phaseOrder.idxOf t < phaseOrder.idxOf u) :
    ∀ y ∈ ⟨u, k⟩ :: post, y.table ≠ t := by
  obtain ⟨-, hrest, -⟩ := List.pairwise_append.mp (hsplit ▸ pairwise_phases c)
  rintro y hy rfl
  rcases List.mem_cons.mp hy with rfl | hpost
  · exact Nat.lt_irrefl _ ht
  · exact Nat.not_lt.mpr ((List.pairwise_cons.mp hrest).1 y hpost) ht

/-- Components that are on the schedule, without the only one of a table, have none of the table. -/
theorem table_ne_of_single {c : Config} {xs : List Site} {t : Table} (hone : tableCount c t = 1) (hsub : xs ⊆ schedule c)
    (hxs : ⟨t, 0⟩ ∉ xs) : ∀ x ∈ xs, x.table ≠ t := by
  rintro ⟨u, k⟩ hx rfl
  obtain rfl : k = 0 := Nat.lt_one_iff.mp (hone ▸ mem_schedule.mp (hsub hx))
  exact hxs hx

/-! ## What the other turns leave alone -/

section
variable {s s' : State} {xs : List Site}

/-- Only its own shaping writes a slot's value. -/
theorem shaped_kept {i : Nat} (hxs : ⟨.sz, i⟩ ∉ xs) (h : runSites xs s = .next s') :
    s'.wires.shaped.length = s.wires.shaped.length ∧ s'.wires.shaped.getD i 0 = s.wires.shaped.getD i 0 := by
  refine runSites_keeps_framed
    (P := fun m => m.wires.shaped.length = s.wires.shaped.length ∧ m.wires.shaped.getD i 0 = s.wires.shaped.getD i 0)
    (fun _ _ hm => hm) (fun x hx m m' _ hm he _ _ => ?_) ⟨rfl, rfl⟩ h
  by_cases ht : x.table = .sz
  · obtain ⟨t, k⟩ := x
    subst ht
    have hki : k ≠ i := by
      rintro rfl
      exact hxs hx
    rw [exec_shape he, List.length_set, getD_set_ne _ hki]
    exact hm
  · rw [(exec_tableOp_carriesOnly he).shaped ht]
    exact hm

/-- Only the ordered port writes its outputs. -/
theorem wbOrd_kept (hxs : ∀ x ∈ xs, x.table ≠ .wo) (h : runSites xs s = .next s') :
    s'.out.wbOrd = s.out.wbOrd ∧ s'.out.wbOrdRaw = s.out.wbOrdRaw :=
  runSites_keeps_framed (P := fun m => m.out.wbOrd = s.out.wbOrd ∧ m.out.wbOrdRaw = s.out.wbOrdRaw) (fun _ _ hm => hm)
    (fun x hx _ _ _ ⟨hres, hraw⟩ he _ _ =>
      have hcarries := exec_tableOp_carriesOnly he
      ⟨(hcarries.wbOrd (hxs x hx)).trans hres, (hcarries.wbOrdRaw (hxs x hx)).trans hraw⟩) ⟨rfl, rfl⟩ h

/-- Only its own turn writes an unordered port. -/
theorem wbUn_kept {j : Nat} (hxs : ⟨.wu, j⟩ ∉ xs) (h : runSites xs s = .next s') :
    s'.out.wbUn.length = s.out.wbUn.length ∧ s'.out.wbUn[j]? = s.out.wbUn[j]? := by
  refine runSites_keeps_framed
    (P := fun m => m.out.wbUn.length = s.out.wbUn.length ∧ m.out.wbUn[j]? = s.out.wbUn[j]?)
    (fun _ _ hm => hm) (fun x hx m m' _ hm he _ _ => ?_) ⟨rfl, rfl⟩ h
  by_cases ht : x.table = .wu
  · obtain ⟨t, k⟩ := x
    subst ht
    have hkj : k ≠ j := by
      rintro rfl
      exact hxs hx
    rw [(exec_wbUnord_turn he).result, List.length_set, List.getElem?_set_ne hkj]
    exact hm
  · rw [(exec_tableOp_carriesOnly he).wbUn ht]
    exact hm

/-- Only the fault output's turn writes it. -/
theorem faultOut_kept (hxs : ∀ x ∈ xs, x.table ≠ .fo) (h : runSites xs s = .next s') :
    s'.out.faultOut = s.out.faultOut :=
  runSites_keeps_framed (P := fun m => m.out.faultOut = s.out.faultOut) (fun _ _ hm => hm)
    (fun x hx _ _ _ hm he _ _ => ((exec_tableOp_carriesOnly he).faultOut (hxs x hx)).trans hm) rfl h

/-- Only the ports' turns accept. -/
theorem wbFire_kept (hwo : ∀ x ∈ xs, x.table ≠ .wo) (hwu : ∀ x ∈ xs, x.table ≠ .wu) (h : runSites xs s = .next s') :
    s'.wires.wbFire = s.wires.wbFire :=
  runSites_keeps_framed (P := fun m => m.wires.wbFire = s.wires.wbFire) (fun _ _ hm => hm)
    (fun x hx _ _ _ hm _ _ hraises => (hraises.wbFire (hwo x hx) (hwu x hx)).trans hm) rfl h

/-- From `s` to `s'` no acceptance of slot `i` has been taken back. -/
def KeepsAcceptance (i : Nat) (s s' : State) : Prop :=
  s'.wires.wbFire.length = s.wires.wbFire.length ∧ (wbFire s i = true → wbFire s' i = true)

theorem keepsAcceptance_of_eq {i : Nat} (h : s'.wires.wbFire = s.wires.wbFire) : KeepsAcceptance i s s' := by
  simp [KeepsAcceptance, wbFire, h]

theorem keepsAcceptance_of_set {i k : Nat} (h : s'.wires.wbFire = s.wires.wbFire.set k true) : KeepsAcceptance i s s' := by
  refine ⟨by rw [h, List.length_set], fun hi => ?_⟩
  rw [wbFire, h]
  rcases getD_set_cases s.wires.wbFire k i true false with ⟨-, hnew⟩ | hold
  · exact hnew
  · exact hold.trans hi

/-- No turn takes an acceptance back. -/
theorem acceptance_kept (i : Nat) (h : runSites xs s = .next s') : KeepsAcceptance i s s' := by
  refine runSites_keeps_framed (P := KeepsAcceptance i s) (fun _ _ hm => hm)
    (fun x _ m m' _ hm he _ hraises => ?_) ⟨rfl, id⟩ h
  suffices hstep : KeepsAcceptance i m m' from ⟨hstep.1.trans hm.1, hstep.2 ∘ hm.2⟩
  obtain ⟨t, k⟩ := x
  by_cases hwo : t = .wo
  · subst hwo
    rcases exec_wbOrd_wbFire he with hold | ⟨-, o, -, hset⟩
    · exact keepsAcceptance_of_eq hold
    · exact keepsAcceptance_of_set hset
  by_cases hwu : t = .wu
  · subst hwu
    rcases exec_wbUnord_wbFire he with hold | ⟨-, u, -, hset⟩
    · exact keepsAcceptance_of_eq hold
    · exact keepsAcceptance_of_set hset
  · exact keepsAcceptance_of_eq (hraises.wbFire hwo hwu)

end

/-! ## What the ports carry -/

section
variable {s m : State}

theorem offered_of_view (h : SameView s m) (i : Nat) : offered m i = offered s i := by
  have ⟨hcfg, _⟩ := h
  simp only [offered, ordOffer_of_view h, unOffer_of_view h, hcfg]

theorem offered_of_ordOffer {i : Nat} (h : ordOffer s = some i) : offered s i = true := by
  simp [offered, h]

theorem offered_of_unOffer {j i : Nat} (hj : j < s.cfg.p) (h : unOffer s j = some i) : offered s i = true :=
  Bool.or_eq_true_iff.mpr (.inr (anyBelow_iff.mpr ⟨j, hj, decide_eq_true h⟩))

/-- After a cycle's components the value of every offered slot has been formed (R265, R273). -/
theorem shaped_after_cycle {i : Nat} (hi : i < s.cfg.n) (hoffer : offered (sample s) i = true)
    (h : runSites (schedule s.cfg) (sample s) = .next m) : m.wires.shaped.getD i 0 = shapedValue (s.slot i) := by
  obtain ⟨pre, post, p, q, -, hpre, hpost, hp, hq, hm⟩ := exists_turn (x := ⟨.sz, i⟩) hi h
  have hview := runSites_view hp
  have hactive : active p ⟨.sz, i⟩ = true := (offered_of_view hview i).trans hoffer
  have hlen : i < p.wires.shaped.length := by
    rw [(shaped_kept hpre hp).1]
    simpa [Wires.idle] using hi
  rw [(shaped_kept hpost hm).2, exec_shape (exec_of_active hactive hq).2, ← sameView_slot hview]
  exact getD_set_self hlen ..

/-- The Result that a port's turn, and what comes after it, leave to be carried is that of the offered slot (R274): no value
is formed any more. -/
theorem res_at_port {p : State} {xs : List Site} {i : Nat} (hview : SameView (sample s) p)
    (hxs : ∀ x ∈ xs, x.table ≠ .sz) (h : runSites xs p = .next m)
    (hshaped : m.wires.shaped.getD i 0 = shapedValue (s.slot i)) : res p i = resultOf (s.slot i) := by
  rw [(shaped_kept (fun hmem => hxs _ hmem rfl) h).2] at hshaped
  simp only [res, flt, hshaped, sameView_slot hview]

/-- After a cycle's components the ordered port carries the Result and the raw data of the slot that it offers. -/
theorem wbOrd_after_cycle (h : runSites (schedule s.cfg) (sample s) = .next m) :
    m.out.wbOrd = (ordOffer (sample s)).map (fun o => resultOf (s.slot o))
      ∧ m.out.wbOrdRaw = (ordOffer (sample s)).map (wbRaw s) := by
  obtain ⟨pre, post, p, q, hsplit, -, hpost, hp, hq, hm⟩ := exists_turn (x := ⟨.wo, 0⟩) Nat.one_pos h
  have hview := runSites_view hp
  obtain ⟨hres, hraw⟩ := wbOrd_kept (table_ne_of_single (c := s.cfg) rfl (by simp [hsplit]) hpost) hm
  have hturn := ordTurn_of_run hq
  rw [hres, hraw, hturn.result, hturn.raw, ordOffer_of_view hview]
  refine ⟨Option.map_congr fun o ho => ?_, Option.map_congr fun o _ => ?_⟩
  · obtain ⟨hon, -⟩ := ordOffer_eq_some.mp ho
    exact res_at_port hview (table_ne_of_later hsplit (by decide)) (runSites_cons_eq_next.mpr ⟨q, hq, hm⟩)
      (shaped_after_cycle hon (offered_of_ordOffer ho) h)
  · simp only [wbRaw, sameView_slot hview]

/-- After a cycle's components an unordered port carries the Result of the slot that it offers. -/
theorem wbUn_after_cycle {j : Nat} (hj : j < s.cfg.p) (h : runSites (schedule s.cfg) (sample s) = .next m) :
    m.out.wbUn[j]? = some ((unOffer (sample s) j).map fun u => resultOf (s.slot u)) := by
  obtain ⟨pre, post, p, q, hsplit, hpre, hpost, hp, hq, hm⟩ := exists_turn (x := ⟨.wu, j⟩) hj h
  have hview := runSites_view hp
  have hlen : j < p.out.wbUn.length := by
    rw [(wbUn_kept hpre hp).1]
    simpa [outputBase] using hj
  rw [(wbUn_kept hpost hm).2, (unTurn_of_run hq).result, unOffer_of_view hview, List.getElem?_set_self hlen]
  refine congrArg some (Option.map_congr fun u hu => ?_)
  obtain ⟨hun, -⟩ := unOffer_eq_some.mp hu
  exact res_at_port hview (table_ne_of_later hsplit (by decide)) (runSites_cons_eq_next.mpr ⟨q, hq, hm⟩)
    (shaped_after_cycle hun (offered_of_unOffer hj hu) h)

end

/-- Settles O50: the ports' turns come after the offered values have been formed, and each port's outputs are those of its own
turn. -/
theorem portsCarryResults : Obligations.PortsCarryResults := by
  intro s t _ hstep
  obtain ⟨m, hrun, rfl⟩ := step_eq_next.mp hstep
  obtain ⟨hres, hraw⟩ := wbOrd_after_cycle hrun
  refine ⟨fun o ho => ?_, fun hnone => ?_, fun j hj => ⟨fun u hu => ?_, fun hnone => ?_⟩⟩
  · have hoffer : ordOffer (sample s) = some o := ordOffer_eq_some.mpr ho
    rw [commit_out, hres, hraw, hoffer]
    exact ⟨rfl, rfl⟩
  · have hoffer : ordOffer (sample s) = none := leastBelow_eq_none.mpr hnone
    rw [commit_out, hres, hoffer, Option.map_none]
  · have hoffer : unOffer (sample s) j = some u := unOffer_eq_some.mpr hu
    rw [commit_out, wbUn_after_cycle hj hrun, hoffer, Option.map_some]
  · have hoffer : unOffer (sample s) j = none := leastBelow_eq_none.mpr hnone
    rw [commit_out, wbUn_after_cycle hj hrun, hoffer, Option.map_none]

/-! ## What is accepted -/

section
variable {s m : State} {i : Nat}

/-- A port's turn that raises the acceptance of slot `i` leaves it accepted at the end of the cycle. -/
theorem wbFire_of_turn {pre post : List Site} {p q : State} (hi : i < s.cfg.n) (hp : runSites pre (sample s) = .next p)
    (hset : q.wires.wbFire = p.wires.wbFire.set i true) (hm : runSites post q = .next m) : wbFire m i = true := by
  have hlen : i < p.wires.wbFire.length := by
    rw [(acceptance_kept i hp).1]
    simpa [Wires.idle] using hi
  refine (acceptance_kept i hm).2 ?_
  rw [wbFire, hset]
  exact getD_set_self hlen ..

theorem wbFire_of_ordOffer (hready : (nextInput s).wbOrdReady = true) (ho : ordOffer (sample s) = some i)
    (h : runSites (schedule s.cfg) (sample s) = .next m) : wbFire m i = true := by
  obtain ⟨pre, post, p, q, -, -, -, hp, hq, hm⟩ := exists_turn (x := ⟨.wo, 0⟩) Nat.one_pos h
  have hview := runSites_view hp
  have ⟨_, _, _, hinp, _⟩ := hview
  obtain ⟨hi, -⟩ := ordOffer_eq_some.mp ho
  exact wbFire_of_turn (s := s) hi hp
    ((ordTurn_of_run hq).accept (hinp ▸ hready) i ((ordOffer_of_view hview).trans ho)) hm

theorem wbFire_of_unOffer {j : Nat} (hj : j < s.cfg.p) (hready : unReady (sample s) j = true)
    (hu : unOffer (sample s) j = some i) (h : runSites (schedule s.cfg) (sample s) = .next m) : wbFire m i = true := by
  obtain ⟨pre, post, p, q, -, -, -, hp, hq, hm⟩ := exists_turn (x := ⟨.wu, j⟩) hj h
  have hview := runSites_view hp
  have ⟨_, _, _, hinp, _⟩ := hview
  obtain ⟨hi, -⟩ := unOffer_eq_some.mp hu
  exact wbFire_of_turn (s := s) hi hp
    ((unTurn_of_run hq).accept (by rwa [unReady, hinp]) i ((unOffer_of_view hview j).trans hu)) hm

/-- After a cycle's components a slot has been accepted exactly if a port offers it to a ready consumer (R275). -/
theorem wbFire_after_cycle (hports : 0 < s.cfg.p) (h : runSites (schedule s.cfg) (sample s) = .next m) :
    wbFire m i = true ↔
      ((nextInput s).wbOrdReady = true ∧ LeastIndex s.cfg.n (ordWb (sample s)) i) ∨
        (unReady (sample s) (i % (s.cfg.m - 1)) = true
          ∧ LeastIndex s.cfg.n (unWbOn (sample s) (i % (s.cfg.m - 1))) i) := by
  constructor
  · exact fun hfire => accepted_iff.mp (accepted_of_wbFire h hfire)
  · rintro (⟨hready, hleast⟩ | ⟨hready, hleast⟩)
    · exact wbFire_of_ordOffer hready (ordOffer_eq_some.mpr hleast) h
    · exact wbFire_of_unOffer (Nat.mod_lt i hports) hready (unOffer_eq_some.mpr hleast) h

end

/-- An admissible configuration has an unordered port (R6). -/
theorem p_pos {c : Config} (h : c.ok = true) : 0 < c.p := by
  simp only [Config.ok, Bool.and_eq_true, decide_eq_true_eq] at h
  rw [Config.p]
  omega

/-- Settles O51: what a port's turn accepts is the slot that it offers, which is in `WB` and not cancelled. -/
theorem acceptance : Obligations.Acceptance := by
  intro s t hinv hstep i _
  obtain ⟨m, hrun, rfl⟩ := step_eq_next.mp hstep
  have hfire := wbFire_after_cycle (i := i) (p_pos hinv.1) hrun
  refine ⟨hfire, fun hi => ?_⟩
  rcases hfire.mp hi with ⟨-, -, hwb, -⟩ | ⟨-, -, hwb, -⟩
  · obtain ⟨hst, -, hcancel⟩ := ordWb_iff.mp hwb
    exact ⟨hst, hcancel⟩
  · obtain ⟨hst, -, hcancel, -⟩ := unWbOn_iff.mp hwb
    exact ⟨hst, hcancel⟩

/-! ## What is reported -/

/-- After a cycle's components the fault output reports the least of the slots that have been accepted with a back-end
error (R280, R281). -/
theorem faultOut_after_cycle {s m : State} (h : runSites (schedule s.cfg) (sample s) = .next m) :
    m.out.faultOut = (leastBelow s.cfg.n fun i => m.wires.wbFire.getD i false && (s.slot i).rerr).map
      fun f => { (s.slot f).req with fault := true } := by
  obtain ⟨pre, post, p, q, hsplit, -, hpost, hp, hq, hm⟩ := exists_turn (x := ⟨.fo, 0⟩) Nat.one_pos h
  have hview := runSites_view hp
  have haccepted : p.wires.wbFire = m.wires.wbFire :=
    (wbFire_kept (table_ne_of_later hsplit (by decide)) (table_ne_of_later hsplit (by decide))
      (runSites_cons_eq_next.mpr ⟨q, hq, hm⟩)).symm
  have hfaulting : faulting p = fun i => m.wires.wbFire.getD i false && (s.slot i).rerr := by
    funext i
    rw [faulting, wbFire, haccepted, sameView_slot hview]
  have hreport := faultOut_of_run hq
  rw [hfaulting, hview.1] at hreport
  rw [faultOut_kept (table_ne_of_single (c := s.cfg) rfl (by simp [hsplit]) hpost) hm, hreport]
  simp only [sameView_slot hview, sample_cfg]

/-- Settles O52: the fault output's turn comes after the ports'. -/
theorem faultOutput : Obligations.FaultOutput := by
  intro s t hstep
  obtain ⟨m, hrun, rfl⟩ := step_eq_next.mp hstep
  refine ⟨fun f hf => ?_, fun hnone => ?_⟩
  · have hleast := leastBelow_eq_some_iff_leastIndex.mpr hf
    rw [commit_out, faultOut_after_cycle hrun]
    exact congrArg (Option.map _) hleast
  · have hleast : (leastBelow s.cfg.n fun i => m.wires.wbFire.getD i false && (s.slot i).rerr) = none :=
      leastBelow_eq_none.mpr fun i hi => by simpa using hnone i hi
    rw [commit_out, faultOut_after_cycle hrun, hleast, Option.map_none]

end Sys2Proof.Machine
end

section
/-!
When a cycle sets the two marks of the writeback (O58): the operation that sets each is picked by signals of the
start-of-cycle view, so it is one of that view.
-/
namespace Sys2Proof.Machine

/-! ## Marks that the start-of-cycle view decides -/

/-- The component performs an operation that sets the mark. -/
def PicksMark (s : State) (x : Site) (k : Mark) : Prop :=
  active s x = true ∧ markOf (tableOp s.cfg x (selector s x)) = some k

/-- Where every point of a cycle picks the operations that set a mark alike, a cycle sets it exactly if its start picks one
(R130). -/
theorem markSet_iff_picks {s t : State} {k : Mark} (hstep : step s = .next t)
    (hview : ∀ x m, x.table ∈ k.tables → SameView (sample s) m → (PicksMark m x k ↔ PicksMark (sample s) x k)) :
    MarkSet (schedule s.cfg) (sample s) k ↔
      ∃ x, x.table ∈ k.tables ∧ x.idx < tableCount s.cfg x.table ∧ PicksMark (sample s) x k := by
  constructor
  · rintro ⟨pre, x, post, m, i, -, hrun, hperf, hmark⟩
    obtain ⟨ht, hx, rfl⟩ := eq_tableOp_of_performs hperf hmark
    have hsame := runSites_view hrun
    have hcfg : m.cfg = s.cfg := hsame.1
    exact ⟨x, ht, hcfg ▸ hx, (hview x m ht hsame).mp ⟨hperf.1, hmark⟩⟩
  · rintro ⟨x, ht, hx, hpicks⟩
    obtain ⟨m, hrun, -⟩ := step_eq_next.mp hstep
    obtain ⟨pre, post, p, q, hsplit, -, -, hp, hq, -⟩ := exists_turn hx hrun
    obtain ⟨hactive, hmark⟩ := (hview x p ht (runSites_view hp)).mpr hpicks
    exact ⟨pre, x, post, p, _, hsplit, hp, (exec_of_active hactive hq).1, hmark⟩

/-! ## Two ordered completions (R262) -/

theorem picksMark_wbOrdMulti {s : State} {k : Nat} : PicksMark s ⟨.wo, k⟩ (.fault .wbOrdMulti) ↔ ordWbMulti s = true := by
  rw [PicksMark, tableOp_wbOrd]
  split_ifs <;> simp_all [markOf, active]

theorem ordWbMulti_of_view {s m : State} (h : SameView s m) : ordWbMulti m = ordWbMulti s := by
  rw [ordWbMulti, ordWbMulti, ordWb_of_view h, h.1]

/-- In a cycle it is a second ordered completion, and nothing else, that sets `WbOrdMulti`. -/
theorem markSet_wbOrdMulti {s t : State} (hstep : step s = .next t) :
    MarkSet (schedule s.cfg) (sample s) (.fault .wbOrdMulti) ↔
      ∃ i j, i < j ∧ j < s.cfg.n ∧ ordWb (sample s) i = true ∧ ordWb (sample s) j = true := by
  have hiff := ordWbMulti_iff (s := sample s)
  rw [sample_cfg] at hiff
  rw [← hiff, markSet_iff_picks hstep]
  · constructor
    · rintro ⟨⟨u, k⟩, hu, -, hpicks⟩
      obtain rfl : u = .wo := by simpa [Mark.tables] using hu
      exact picksMark_wbOrdMulti.mp hpicks
    · exact fun hmulti => ⟨⟨.wo, 0⟩, by simp [Mark.tables], Nat.one_pos, picksMark_wbOrdMulti.mpr hmulti⟩
  · rintro ⟨u, k⟩ m hu hview
    obtain rfl : u = .wo := by simpa [Mark.tables] using hu
    rw [picksMark_wbOrdMulti, picksMark_wbOrdMulti, ordWbMulti_of_view hview]

/-! ## An offered slot of the reserved size (R273) -/

theorem markOf_shapeOp {i : Nat} {size : SizeCode} : markOf (shapeOp i size) = some (.refusal .badSize) ↔ size = 7 := by
  have hsize := mem_sizeCodes size
  fin_cases hsize <;> simp [shapeOp, markOf]

theorem picksMark_badSize {s : State} {i : Nat} :
    PicksMark s ⟨.sz, i⟩ (.refusal .badSize) ↔ offered s i = true ∧ (s.slot i).req.size = 7 := by
  rw [PicksMark, tableOp_shape, markOf_shapeOp]
  rfl

/-- A slot is offered exactly if it is the least completion of the ordered port or of its partition's port (R260, R263, R264). -/
theorem offered_iff {s : State} {i : Nat} (hports : 0 < s.cfg.p) :
    offered s i = true ↔
      LeastIndex s.cfg.n (ordWb s) i ∨ LeastIndex s.cfg.n (unWbOn s (i % (s.cfg.m - 1))) i := by
  simp only [offered, Bool.or_eq_true, decide_eq_true_eq, anyBelow_iff, ordOffer_eq_some, unOffer_eq_some]
  refine or_congr_right ⟨?_, fun hleast => ⟨_, Nat.mod_lt i hports, hleast⟩⟩
  rintro ⟨j, -, hleast⟩
  have ⟨_, hwb, _⟩ := hleast
  obtain ⟨-, -, -, rfl⟩ := unWbOn_iff.mp hwb
  exact hleast

/-- In a cycle it is an offered slot of the reserved size, and nothing else, that sets `BadSize`. -/
theorem markSet_badSize {s t : State} (hports : 0 < s.cfg.p) (hstep : step s = .next t) :
    MarkSet (schedule s.cfg) (sample s) (.refusal .badSize) ↔
      ∃ i, i < s.cfg.n ∧ (s.slot i).req.size = 7 ∧
        (LeastIndex s.cfg.n (ordWb (sample s)) i ∨ LeastIndex s.cfg.n (unWbOn (sample s) (i % (s.cfg.m - 1))) i) := by
  rw [markSet_iff_picks hstep]
  · constructor
    · rintro ⟨⟨u, i⟩, hu, hi, hpicks⟩
      obtain rfl : u = .sz := by simpa [Mark.tables] using hu
      obtain ⟨hoffer, hsize⟩ := picksMark_badSize.mp hpicks
      exact ⟨i, hi, hsize, (offered_iff (s := sample s) hports).mp hoffer⟩
    · rintro ⟨i, hi, hsize, hoffer⟩
      have hoffered := (offered_iff (s := sample s) hports).mpr hoffer
      exact ⟨⟨.sz, i⟩, by simp [Mark.tables], hi, picksMark_badSize.mpr ⟨hoffered, hsize⟩⟩
  · rintro ⟨u, i⟩ m hu hview
    obtain rfl : u = .sz := by simpa [Mark.tables] using hu
    rw [picksMark_badSize, picksMark_badSize, offered_of_view hview, sameView_slot hview, sample_slot]

/-- Settles O58: the ordered port sets the one mark, the shaping of an offered slot the other. -/
theorem writebackMarks : Obligations.WritebackMarks := by
  intro s t hinv hstep
  rw [← markSet_wbOrdMulti hstep, ← markSet_badSize (p_pos hinv.1) hstep]
  exact ⟨step_marked hstep (.fault .wbOrdMulti), step_marked hstep (.refusal .badSize)⟩

end Sys2Proof.Machine
end

section
/-!
The rollback selector's operations, one by one: what each writes, and the signals that pick it (R108, R290 to R297; O21).
-/
namespace Sys2Proof.Machine

/-! ## Candidates and the elected lane (R290, R291) -/

theorem rbCand_iff {s : State} {w : Nat} : rbCand s w = true ↔ enqReq s w = true ∧ s.out.enq.getD w none = none := by
  simp [rbCand, enqOk, enqIdx]

theorem rbElected_eq_some {s : State} {e : Nat} : rbElected s = some e ↔ LeastIndex s.cfg.w (rbOldest s) e :=
  leastBelow_eq_some

/-- An oldest lane is a candidate. -/
theorem rbCand_of_rbOldest {s : State} {w : Nat} (h : rbOldest s w = true) : rbCand s w = true :=
  (rbOldest_iff.mp h).1

theorem rbAny_of_rbElected {s : State} {e : Nat} (h : rbElected s = some e) : rbAny s = true :=
  have ⟨he, hold, _⟩ := rbElected_eq_some.mp h
  anyBelow_iff.mpr ⟨e, he, rbCand_of_rbOldest hold⟩

theorem rbAny_eq_false {s : State} : rbAny s = false ↔ ∀ w, w < s.cfg.w → rbCand s w = false := by
  rw [← leastBelow_eq_none, rbAny, ← leastBelow_isSome, Option.isSome_eq_false_iff, Option.isNone_iff_eq_none]

/-- Without a candidate no lane is oldest. -/
theorem rbOldest_eq_false {s : State} (h : rbAny s = false) {w : Nat} (hw : w < s.cfg.w) : rbOldest s w = false :=
  Bool.eq_false_of_not_eq_true fun hold => by simpa [rbAny_eq_false.mp h w hw] using rbCand_of_rbOldest hold

/-- Without a candidate no lane is elected. -/
theorem rbElected_eq_none {s : State} (h : rbAny s = false) : rbElected s = none :=
  leastBelow_eq_none.mpr fun _ hw => rbOldest_eq_false h hw

/-- A second oldest lane is what `rb_tie` signals (R291). -/
theorem rbTie_iff_other {s : State} {e : Nat} (h : rbElected s = some e) :
    rbTie s = true ↔ ∃ w, w ≠ e ∧ w < s.cfg.w ∧ rbOldest s w = true := by
  rw [rbTie, decide_eq_true_eq, one_lt_countBelow, exists_pair_iff_other (rbElected_eq_some.mp h)]

/-- Without a candidate there is no tie. -/
theorem rbTie_eq_false {s : State} (h : rbAny s = false) : rbTie s = false := by
  rw [← Bool.not_eq_true, rbTie, decide_eq_true_eq, one_lt_countBelow]
  rintro ⟨-, w, -, hw, -, hold⟩
  simp [rbOldest_eq_false h hw] at hold

/-- The flush checks are those of the elected record (R293). -/
theorem rbHit_of_rbElected {s : State} {e : Nat} (h : rbElected s = some e) (f : AgeSignal) :
    rbHit s f = hit s.cfg (s.stage e).c.age f := by
  rw [rbHit, h]

/-- Without a candidate no flush check hits (R293). -/
theorem rbHit_eq_false {s : State} (h : rbAny s = false) (f : AgeSignal) : rbHit s f = false := by
  rw [rbHit, rbElected_eq_none h]

/-! ## The operation that the signals pick -/

/-- The operation of the rollback selector, by the priorities of R108. -/
theorem tableOp_rollback (s : State) (k : Nat) :
    tableOp s.cfg ⟨.rb, k⟩ (selector s ⟨.rb, k⟩) =
      if rbAny s then
        if rbTie s then .rbTieFault (rbHit s s.inp.flush) (rbHit s s.regs.flushD1) (rbHit s s.regs.flushD2)
        else if rbHit s s.inp.flush || rbHit s s.regs.flushD1 || rbHit s s.regs.flushD2 then
          .rbSuppress (rbHit s s.inp.flush) (rbHit s s.regs.flushD1) (rbHit s s.regs.flushD2)
        else .rbArm
      else .rbNone (rbTie s) (rbHit s s.inp.flush) (rbHit s s.regs.flushD1) (rbHit s s.regs.flushD2) :=
  decodeRollback_rbWord ..

/-- The rollback selector performs what its table's decoder picks (R98). -/
theorem performs_rollback (s : State) : Performs s ⟨.rb, 0⟩ (tableOp s.cfg ⟨.rb, 0⟩ (selector s ⟨.rb, 0⟩)) :=
  ⟨rfl, decode_eq_ok.mpr ⟨Nat.one_pos, rbWord_lt .., nofun, rfl⟩⟩

/-- With an elected lane, the rollback selector's operation depends on a second oldest lane and on the elected record's flush
checks. -/
theorem performs_rollback_elected {s : State} {e : Nat} (h : rbElected s = some e) :
    Performs s ⟨.rb, 0⟩
      (let now := hit s.cfg (s.stage e).c.age s.inp.flush
       let d1 := hit s.cfg (s.stage e).c.age s.regs.flushD1
       let d2 := hit s.cfg (s.stage e).c.age s.regs.flushD2
       if rbTie s then .rbTieFault now d1 d2 else if now || d1 || d2 then .rbSuppress now d1 d2 else .rbArm) := by
  have hperf := performs_rollback s
  rwa [tableOp_rollback, if_pos (rbAny_of_rbElected h), rbHit_of_rbElected h, rbHit_of_rbElected h,
    rbHit_of_rbElected h] at hperf

/-- Without a candidate, the rollback selector leaves no directive, with every other signal 0 (R297). -/
theorem performs_rollback_none {s : State} (h : rbAny s = false) :
    Performs s ⟨.rb, 0⟩ (.rbNone false false false false) := by
  have hperf := performs_rollback s
  rwa [tableOp_rollback, h, if_neg Bool.false_ne_true, rbTie_eq_false h, rbHit_eq_false h, rbHit_eq_false h,
    rbHit_eq_false h] at hperf

/-- Settles O21: the least oldest lane is the one that is armed; a second oldest one picks the fault row, and else the elected
record's flush checks decide. -/
theorem rollbackOperations : Obligations.RollbackOperations := by
  intro s
  refine ⟨fun w => ?_, fun e he => ?_, fun _ _ _ => rfl, fun _ _ _ _ => rfl, fun hgranted => ?_⟩
  · simp only [rbOldest_iff, rbCand_iff, and_imp, and_assoc]
  · have helected := rbElected_eq_some.mpr he
    have hperf := performs_rollback_elected helected
    have htie := rbTie_iff_other helected
    refine ⟨onChoice_of_eq helected, fun a b c => (onChoice_of_eq helected).trans ?_, fun hother => ?_, fun honly => ?_⟩
    · split <;> rfl
    · rwa [if_pos (htie.mpr hother)] at hperf
    · rwa [if_neg (mt htie.mp fun ⟨h, hne, hh, hold⟩ => hne (honly h hh hold))] at hperf
  · refine performs_rollback_none (rbAny_eq_false.mpr fun w hw => Bool.eq_false_of_not_eq_true fun hcand => ?_)
    obtain ⟨hreq, hnone⟩ := rbCand_iff.mp hcand
    exact hgranted w hw hreq hnone

end Sys2Proof.Machine
end

section
/-!
The rollback over a cycle (R290 to R298): the candidates are the rejected lanes, and the rollback register takes what the
selector's turn makes of them (O53); a rejected lane passed the flush checks of its admission (O54).
-/
namespace Sys2Proof.Machine

/-! ## The selector's turn -/

/-- What the selector makes of the directive `d` when it elects a lane, or none: the lane's record, unless one of the three
flush checks hits it (R293, R294, R296, R297). -/
def electedDirective (s : State) (d : Directive) : Option Nat → Directive
  | some e =>
    if hit s.cfg (s.stage e).c.age s.inp.flush || hit s.cfg (s.stage e).c.age s.regs.flushD1
        || hit s.cfg (s.stage e).c.age s.regs.flushD2 then { d with v := false }
    else { v := true, age := (s.stage e).c.age, restart := (s.stage e).c.restart }
  | none => { d with v := false }

theorem electedDirective_of_view {s m : State} (h : SameView s m) : electedDirective m = electedDirective s := by
  obtain ⟨hcfg, -, hregs, hinp, -⟩ := h
  funext d g
  cases g with
  | none => rfl
  | some e => rw [electedDirective, electedDirective, State.stage, State.stage, hcfg, hregs, hinp]

/-- What the selector's operation does to the rollback register, whichever its signals pick (R292, R294, R296, R297). -/
theorem exec_rollback_turn {s s' : State} {k : Nat}
    (h : exec (tableOp s.cfg ⟨.rb, k⟩ (selector s ⟨.rb, k⟩)) s = .next s') :
    s'.nxt.rb = electedDirective s s.nxt.rb (rbElected s) := by
  rw [tableOp_rollback] at h
  by_cases hany : rbAny s = true
  · obtain ⟨e, he⟩ := Option.isSome_iff_exists.mp (rbElected_isSome hany)
    simp only [if_pos hany, rbHit_of_rbElected he] at h
    rw [he, electedDirective]
    split_ifs at h with htie hflush
    · obtain ⟨e', he', rfl⟩ := onChoice_eq_next.mp h
      obtain rfl : e = e' := Option.some.inj (he.symm.trans he')
      dsimp only
      split <;> rfl
    · cases h
      rw [if_pos hflush]
      rfl
    · obtain ⟨e', he', rfl⟩ := onChoice_eq_next.mp h
      obtain rfl : e = e' := Option.some.inj (he.symm.trans he')
      rw [if_neg hflush]
      rfl
  · rw [if_neg hany] at h
    cases h
    rw [rbElected_eq_none (Bool.eq_false_of_not_eq_true hany)]
    rfl

theorem directive_of_run {p q : State} {k : Nat} (h : runSite ⟨.rb, k⟩ p = .next q) :
    q.nxt.rb = electedDirective p p.nxt.rb (rbElected p) :=
  exec_rollback_turn (s := p.noting ⟨.rb, k⟩) (exec_of_active rfl h).2

/-! ## What the other turns leave alone -/

/-- Only the rollback selector writes the rollback register. -/
theorem directive_kept_of_not_rollback {s s' : State} {xs : List Site} (hxs : ∀ x ∈ xs, x.table ≠ .rb)
    (h : runSites xs s = .next s') : s'.nxt.rb = s.nxt.rb :=
  runSites_keeps_framed (P := fun m => m.nxt.rb = s.nxt.rb) (fun _ _ hm => hm)
    (fun x hx _ _ _ hm _ hwrites _ => (hwrites.directive (hxs x hx)).trans hm) rfl h

/-- Only the allocator grants. -/
theorem grants_kept_of_not_alloc {s s' : State} {xs : List Site} (hxs : ∀ x ∈ xs, x.table ≠ .al)
    (h : runSites xs s = .next s') : s'.out.enq = s.out.enq :=
  runSites_keeps_framed (P := fun m => m.out.enq = s.out.enq) (fun _ _ hm => hm)
    (fun x hx _ _ _ hm _ hwrites _ => (hwrites.grants (hxs x hx)).trans hm) rfl h

/-- The election reads the start-of-cycle view, the enqueue requests and the grants. -/
theorem rbElected_congr {s s' : State} (hview : SameView s s') (hreq : s'.wires.enqReq = s.wires.enqReq)
    (hgrants : s'.out.enq = s.out.enq) : rbElected s' = rbElected s := by
  obtain ⟨hcfg, -, hregs, -⟩ := hview
  have hcand : rbCand s' = rbCand s := by
    funext w
    simp only [rbCand, enqReq, enqOk, enqIdx, hreq, hgrants]
  have hold : rbOldest s' = rbOldest s := by
    funext w
    simp only [rbOldest, hcand, State.stage, hcfg, hregs]
  rw [rbElected, rbElected, hold, hcfg]

/-! ## The whole cycle -/

/-- After a cycle's components the rollback register's next value is what the election over all lanes makes of it: the
selector's turn comes after the admissions and the allocations (R135). -/
theorem directive_after_cycle {s m : State} (h : runSites (schedule s.cfg) (sample s) = .next m) :
    m.nxt.rb = electedDirective (sample s) s.regs.rb (rbElected m) := by
  obtain ⟨pre, post, p, q, hsplit, hpre, hpost, hp, hq, hm⟩ := exists_turn (x := ⟨.rb, 0⟩) Nat.one_pos h
  have hrest := runSites_cons_eq_next.mpr ⟨q, hq, hm⟩
  have hbefore : p.nxt.rb = s.regs.rb :=
    directive_kept_of_not_rollback (table_ne_of_single (c := s.cfg) rfl (by simp [hsplit]) hpre) hp
  have helected : rbElected m = rbElected p :=
    rbElected_congr (runSites_view hrest)
      (requests_kept_of_not_admission (table_ne_of_later hsplit (by decide)) hrest)
      (grants_kept_of_not_alloc (table_ne_of_later hsplit (by decide)) hrest)
  calc m.nxt.rb = q.nxt.rb :=
        directive_kept_of_not_rollback (table_ne_of_single (c := s.cfg) rfl (by simp [hsplit]) hpost) hm
    _ = electedDirective p p.nxt.rb (rbElected p) := directive_of_run hq
    _ = electedDirective (sample s) s.regs.rb (rbElected m) := by
      rw [electedDirective_of_view (runSites_view hp), hbefore, helected]

/-- After a cycle's components the candidates are the rejected lanes (R193, R290). -/
theorem rbCand_after_cycle {s m : State} {w : Nat} (hw : w < s.cfg.w)
    (h : runSites (schedule s.cfg) (sample s) = .next m) : rbCand m w = m.out.allocReject.getD w false := by
  have hgrant : enqOk m w = (enqReq m w && canAlloc m w) := by
    rw [Bool.eq_iff_iff, enqOk, Option.isSome_iff_exists, exists_grant_iff hw h, Bool.and_eq_true]
  rw [(lane_after_cycle hw h).2, rbCand, hgrant]
  cases enqReq m w <;> rfl

/-- A candidate that is strictly older than every other one is elected (R291). -/
theorem rbElected_of_strictly_oldest {s : State} {e : Nat} (he : e < s.cfg.w) (hcand : rbCand s e = true)
    (hold : ∀ u, u < s.cfg.w → u ≠ e → rbCand s u = true → older s.cfg (s.stage e).c.age (s.stage u).c.age = true) :
    rbElected s = some e := by
  refine rbElected_eq_some.mpr ⟨he, rbOldest_iff.mpr ⟨hcand, fun u hu hne hu' => older_asymm (hold u hu hne hu')⟩,
    fun u hue => Bool.eq_false_of_not_eq_true fun holdest => ?_⟩
  obtain ⟨hcandu, hnone⟩ := rbOldest_iff.mp holdest
  have hyounger := hold u (hue.trans he) hue.ne hcandu
  simp [hnone e he hue.ne' hcand] at hyounger

/-- Settles O53: the candidates are the rejected lanes; without one none is elected, and one strictly older than the others
is. -/
theorem oldestIsRolledBack : Obligations.OldestIsRolledBack := by
  intro s t hstep
  obtain ⟨m, hrun, rfl⟩ := step_eq_next.mp hstep
  have hview := runSites_view hrun
  have hcfg : m.cfg = s.cfg := hview.1
  have hnext : (commit m).regs.rb = electedDirective (sample s) s.regs.rb (rbElected m) := directive_after_cycle hrun
  rw [hnext, commit_out]
  refine ⟨fun hnone => ?_, fun e he hrej hold => ?_⟩
  · have hany : rbAny m = false :=
      rbAny_eq_false.mpr fun w hw => (rbCand_after_cycle (hcfg ▸ hw) hrun).trans (hnone w (hcfg ▸ hw))
    rw [rbElected_eq_none hany]
    rfl
  · have helected : rbElected m = some e := by
      refine rbElected_of_strictly_oldest (hcfg ▸ he) ((rbCand_after_cycle he hrun).trans hrej) fun u hu hne hcand => ?_
      rw [hcfg] at hu ⊢
      rw [rbCand_after_cycle hu hrun] at hcand
      rw [sameView_stage hview, sameView_stage hview]
      exact hold u hu hne hcand
    rw [helected]
    rfl

/-! ## What admission leaves to the flush checks (R298) -/

/-- The flush checks of admission are those of this cycle's flush and of its one-cycle copy (R214). -/
theorem flushHit_eq_false {s : State} {w : Nat} :
    flushHit s w = false ↔
      hit s.cfg (s.stage w).c.age s.regs.flushD1 = false ∧ hit s.cfg (s.stage w).c.age s.inp.flush = false :=
  Bool.or_eq_false_iff

theorem flushHit_of_admits {s : State} {w : Nat} (h : admits s w = true) : flushHit s w = false := by
  simp only [admits, Bool.and_eq_true, Bool.not_eq_true'] at h
  obtain ⟨⟨⟨⟨-, hflush⟩, -⟩, -⟩, -⟩ := h
  exact hflush

/-- Settles O54: a rejected lane has an enqueue request, so that its candidate passed both flush checks of admission. -/
theorem onlyTheOldestFlushSuppresses : Obligations.OnlyTheOldestFlushSuppresses := by
  intro s t hstep w hw hrej
  obtain ⟨m, hrun, rfl⟩ := step_eq_next.mp hstep
  obtain ⟨hreq, -⟩ := rbCand_iff.mp ((rbCand_after_cycle hw hrun).trans hrej)
  rw [enqReq_after_cycle hw hrun] at hreq
  obtain ⟨hd1, hnow⟩ := flushHit_eq_false.mp (flushHit_of_admits hreq)
  exact ⟨hnow, hd1⟩

end Sys2Proof.Machine
end

section
/-!
When a cycle sets the two marks of ties (R238, R292), and that unique ages exclude both (R342 (a), R350; O56): `OrdMulti` is
decided at the start of the cycle, `AgeTie` by the requests and the grants that the election reads.
-/
namespace Sys2Proof.Machine

/-! ## Two eligible ordered requesters (R238) -/

/-- Several requesters are at least one (R230). -/
theorem anyOrd_of_ordMulti {s : State} (h : ordMulti s = true) : anyOrd s = true := by
  obtain ⟨k, l, hkl, hl, hk, -⟩ := ordMulti_iff.mp h
  exact anyOrd_iff.mpr ⟨k, hkl.trans hl, hk⟩

theorem picksMark_ordMulti {s : State} {k : Nat} : PicksMark s ⟨.ar, k⟩ (.fault .ordMulti) ↔ ordMulti s = true := by
  have hany := anyOrd_of_ordMulti (s := s)
  rw [PicksMark, tableOp_arbiter]
  split_ifs <;> simp_all [markOf, active]

theorem ordMulti_of_view {s m : State} (h : SameView s m) : ordMulti m = ordMulti s := by
  rw [ordMulti, ordMulti, ordReq_of_view h, h.1]

/-- In a cycle it is a second eligible ordered requester, and nothing else, that sets `OrdMulti`. -/
theorem markSet_ordMulti {s t : State} (hstep : step s = .next t) :
    MarkSet (schedule s.cfg) (sample s) (.fault .ordMulti) ↔ ordMulti (sample s) = true := by
  rw [markSet_iff_picks hstep]
  · constructor
    · rintro ⟨⟨u, k⟩, hu, -, hpicks⟩
      obtain rfl : u = .ar := by simpa [Mark.tables] using hu
      exact picksMark_ordMulti.mp hpicks
    · exact fun hmulti => ⟨⟨.ar, 0⟩, by simp [Mark.tables], Nat.one_pos, picksMark_ordMulti.mpr hmulti⟩
  · rintro ⟨u, k⟩ m hu hview
    obtain rfl : u = .ar := by simpa [Mark.tables] using hu
    rw [picksMark_ordMulti, picksMark_ordMulti, ordMulti_of_view hview]

/-! ## Two oldest rejected lanes (R292) -/

theorem leastBelow_congr {n : Nat} {p q : Nat → Bool} (h : ∀ i, i < n → p i = q i) : leastBelow n p = leastBelow n q :=
  List.find?_congr fun i hi => h i (List.mem_range.mp hi)

theorem countBelow_congr {n : Nat} {p q : Nat → Bool} (h : ∀ i, i < n → p i = q i) : countBelow n p = countBelow n q :=
  List.countP_congr fun i hi => by rw [h i (List.mem_range.mp hi)]

/-- The election reads the candidates and, of the lanes, only the candidates' ages (R291). -/
theorem election_congr {s s' : State} (hcfg : s'.cfg = s.cfg) (hcand : ∀ w, w < s.cfg.w → rbCand s' w = rbCand s w)
    (hage : ∀ w, w < s.cfg.w → rbCand s w = true → (s'.stage w).c.age = (s.stage w).c.age) :
    rbElected s' = rbElected s ∧ rbTie s' = rbTie s := by
  have hold (w : Nat) (hw : w < s.cfg.w) : rbOldest s' w = rbOldest s w := by
    rw [Bool.eq_iff_iff, rbOldest_iff, rbOldest_iff, hcfg, hcand w hw]
    refine and_congr_right fun hcandw => forall₃_congr fun u hu _ => ?_
    rw [hcand u hu, hage w hw hcandw]
    exact imp_congr_right fun hcandu => by rw [hage u hu hcandu]
  rw [rbElected, rbElected, rbTie, rbTie, hcfg, leastBelow_congr hold, countBelow_congr hold]
  exact ⟨rfl, rfl⟩

theorem markOf_rollback {s : State} {k : Nat} :
    markOf (tableOp s.cfg ⟨.rb, k⟩ (selector s ⟨.rb, k⟩)) = some (.fault .ageTie) ↔ rbTie s = true := by
  have hnone := rbTie_eq_false (s := s)
  rw [tableOp_rollback]
  split_ifs <;> simp_all [markOf]

/-- From the rollback selector's turn on, the tie stands (R135). -/
theorem rbTie_kept {s p m : State} {pre post : List Site} {k : Nat} (hsplit : schedule s.cfg = pre ++ ⟨.rb, k⟩ :: post)
    (h : runSites (⟨.rb, k⟩ :: post) p = .next m) : rbTie m = rbTie p := by
  have hview := runSites_view h
  have hreq := requests_kept_of_not_admission (table_ne_of_later hsplit (by decide)) h
  have hgrants := grants_kept_of_not_alloc (table_ne_of_later hsplit (by decide)) h
  have ⟨hcfg, _, hregs, _⟩ := hview
  refine (election_congr hcfg (fun w _ => ?_) fun w _ _ => by rw [State.stage, State.stage, hregs]).2
  simp only [rbCand, enqReq, enqOk, enqIdx, hreq, hgrants]

/-- In a cycle it is a second oldest rejected lane, and nothing else, that sets `AgeTie`. -/
theorem markSet_ageTie {s m : State} (h : runSites (schedule s.cfg) (sample s) = .next m) :
    MarkSet (schedule s.cfg) (sample s) (.fault .ageTie) ↔ rbTie m = true := by
  constructor
  · rintro ⟨pre, ⟨u, k⟩, post, p, i, hsplit, hp, hperf, hmark⟩
    obtain ⟨hu, -, rfl⟩ := eq_tableOp_of_performs hperf hmark
    obtain rfl : u = .rb := by simpa [Mark.tables] using hu
    rw [hsplit, runSites_append_eq_next] at h
    obtain ⟨p', hp', hrest⟩ := h
    cases hp.symm.trans hp'
    rw [rbTie_kept hsplit hrest]
    exact markOf_rollback.mp hmark
  · intro htie
    obtain ⟨pre, post, p, q, hsplit, -, -, hp, hq, hm⟩ := exists_turn (x := ⟨.rb, 0⟩) Nat.one_pos h
    rw [rbTie_kept hsplit (runSites_cons_eq_next.mpr ⟨q, hq, hm⟩)] at htie
    exact ⟨pre, ⟨.rb, 0⟩, post, p, _, hsplit, hp, (exec_of_active rfl hq).1, markOf_rollback.mpr htie⟩

/-! ## Unique ages -/

/-- One token names at most one age, so with unique ages no two ordered Requests are eligible (R342 (a) and (b)). -/
theorem eq_of_eligible {s : State} {i j : Nat} (hages : AgesUnique s) (hi : i < s.cfg.n) (hj : j < s.cfg.n)
    (hordi : (s.slot i).req.cls = .ord) (hordj : (s.slot j).req.cls = .ord) (heligi : elig s i = true)
    (heligj : elig s j = true) : i = j := by
  obtain ⟨hslots, -⟩ := hages
  obtain ⟨hocci, hun | ⟨-, htoki⟩⟩ := elig_iff.mp heligi
  · simp [hordi] at hun
  obtain ⟨hoccj, hun | ⟨-, htokj⟩⟩ := elig_iff.mp heligj
  · simp [hordj] at hun
  by_contra hne
  exact hslots i hi j hj hne hocci hoccj (htoki.symm.trans htokj)

theorem ordMulti_eq_false_of_agesUnique {s : State} (hages : AgesUnique s) : ordMulti s = false := by
  rw [← Bool.not_eq_true, ordMulti_iff]
  rintro ⟨k, l, hkl, hl, hk, hl'⟩
  obtain ⟨-, hordk, heligk, -⟩ := ordReq_iff.mp hk
  obtain ⟨-, hordl, heligl, -⟩ := ordReq_iff.mp hl'
  exact hkl.ne (eq_of_eligible hages (hkl.trans hl) hl hordk hordl heligk heligl)

/-- Of two rejected candidates with different ages one is strictly older, so they are not both oldest. -/
theorem rbTie_eq_false_of_ages {s : State}
    (hages : ∀ u, u < s.cfg.w → ∀ w, w < s.cfg.w → u ≠ w → rbCand s u = true → rbCand s w = true →
      (s.stage u).c.age ≠ (s.stage w).c.age) : rbTie s = false := by
  rw [← Bool.not_eq_true, rbTie, decide_eq_true_eq, one_lt_countBelow]
  rintro ⟨u, w, huw, hw, hu, hw'⟩
  obtain ⟨hcandu, holdu⟩ := rbOldest_iff.mp hu
  obtain ⟨hcandw, holdw⟩ := rbOldest_iff.mp hw'
  rcases older_total (c := s.cfg) (hages u (huw.trans hw) w hw huw.ne hcandu hcandw) with hlt | hlt
  · simp [holdw u (huw.trans hw) huw.ne hcandu] at hlt
  · simp [holdu w hw huw.ne' hcandw] at hlt

/-- A lane with an enqueue request holds a Candidate (R223). -/
theorem valid_of_admits {s : State} {w : Nat} (h : admits s w = true) : (s.stage w).v = true := by
  simp only [admits, Bool.and_eq_true] at h
  obtain ⟨⟨⟨⟨hv, -⟩, -⟩, -⟩, -⟩ := h
  exact hv

theorem valid_of_enqReq {s m : State} {w : Nat} (hw : w < s.cfg.w) (h : runSites (schedule s.cfg) (sample s) = .next m)
    (hreq : enqReq m w = true) : (s.stage w).v = true := by
  rw [enqReq_after_cycle hw h] at hreq
  exact valid_of_admits (s := sample s) hreq

/-- A candidate for the rollback is a lane that holds a valid Candidate (R290). -/
theorem valid_of_rbCand {s m : State} {w : Nat} (hw : w < s.cfg.w) (h : runSites (schedule s.cfg) (sample s) = .next m)
    (hcand : rbCand m w = true) : (s.stage w).v = true :=
  valid_of_enqReq hw h (rbCand_iff.mp hcand).1

/-- Settles O56: the first mark needs two ordered Requests that the token names, the second two oldest lanes with
Candidates; unique ages leave neither. -/
theorem uniqueAgesExcludeTies : Obligations.UniqueAgesExcludeTies := by
  intro s t _ hages hstep
  obtain ⟨m, hrun, -⟩ := step_eq_next.mp hstep
  have hmulti : ordMulti (sample s) = false := ordMulti_eq_false_of_agesUnique hages
  have htie : rbTie m = false := by
    obtain ⟨-, hlanes, -⟩ := hages
    have hview := runSites_view hrun
    have hcfg : m.cfg = s.cfg := hview.1
    refine rbTie_eq_false_of_ages fun u hu w hw hne hcandu hcandw => ?_
    rw [hcfg] at hu hw
    rw [sameView_stage hview, sameView_stage hview]
    exact hlanes u hu w hw hne (valid_of_rbCand hu hrun hcandu) (valid_of_rbCand hw hrun hcandw)
  exact ⟨marked_eq_of_not_markSet (k := .fault .ordMulti) hstep (by simp [markSet_ordMulti hstep, hmulti]),
    marked_eq_of_not_markSet (k := .fault .ageTie) hstep (by simp [markSet_ageTie hrun, htie])⟩

end Sys2Proof.Machine
end

section
/-!
At most one ordered Request in flight (R342, R350; O57): what a cycle puts in flight was eligible, and behind the head of
program order the token names none.
-/
namespace Sys2Proof.Machine

/-- The slot holds an ordered Request in flight: in `REQ`, `RESP` or `WB` (R350). -/
def OrdInFlight (sl : Slot) : Prop := sl.occ = true ∧ sl.req.cls = .ord ∧ sl.st ≠ .idle

/-- What is in flight after a cycle was held before it, and if it was in `IDLE` it was eligible (R155). -/
theorem held_of_nextSlot_inFlight {sl : Slot} {granted : Option Request} {cancel elig fired wbFired : Bool}
    {answer : Option (Beat × Bool)} (h : OrdInFlight (nextSlot sl granted cancel elig fired wbFired answer)) :
    sl.occ = true ∧ sl.req.cls = .ord ∧ (sl.st = .idle → elig = true) := by
  obtain ⟨hocc', hord, hst'⟩ := h
  cases hocc : sl.occ with
  | false =>
    cases granted with
    | none => simp [nextSlot_empty_none hocc, hocc] at hocc'
    | some r => simp [nextSlot_empty_some hocc] at hst'
  | true =>
    refine ⟨rfl, ?_⟩
    cases hst : sl.st with
    | idle =>
      rw [nextSlot_idle hocc hst] at hocc' hord hst'
      split_ifs at hocc' hord hst' with hcancel helig
      · exact ⟨hord, fun _ => helig⟩
      · exact absurd hst hst'
    | req =>
      rw [nextSlot_req hocc hst] at hord
      split_ifs at hord <;> exact ⟨hord, nofun⟩
    | resp =>
      cases answer with
      | none =>
        rw [nextSlot_resp_none hocc hst] at hord
        exact ⟨hord, nofun⟩
      | some a =>
        rw [nextSlot_resp_some hocc hst] at hord
        split_ifs at hord <;> exact ⟨hord, nofun⟩
    | wb =>
      rw [nextSlot_wb hocc hst] at hord
      split_ifs at hord <;> exact ⟨hord, nofun⟩

theorem held_of_inFlight {s t : State} {i : Nat} (hinv : Invariant s) (hstep : step s = .next t) (hi : i < s.cfg.n)
    (h : OrdInFlight (t.slot i)) :
    (s.slot i).occ = true ∧ (s.slot i).req.cls = .ord ∧ ((s.slot i).st = .idle → elig s i = true) := by
  obtain ⟨granted, -, -, hnext⟩ := slotAfterCycle s t hinv hstep i hi
  exact held_of_nextSlot_inFlight (hnext ▸ h)

section
variable {s : State} {i j : Nat}

/-- With an ordered Request in flight at the head of program order, no other ordered Request is in flight or eligible. -/
theorem idle_and_not_elig_of_head (hhead : OrderedHead s) (htok : TokenInOrder s s.regs.tokD1) (hi : i < s.cfg.n)
    (hj : j < s.cfg.n) (hne : i ≠ j) (hflight : OrdInFlight (s.slot i)) (hocc : (s.slot j).occ = true)
    (hord : (s.slot j).req.cls = .ord) : (s.slot j).st = .idle ∧ elig s j = false := by
  obtain ⟨hocci, hordi, hsti⟩ := hflight
  obtain ⟨hidle, hyounger⟩ := hhead i hi j hj hne hocci hordi hsti hocc hord
  refine ⟨hidle, Bool.eq_false_of_not_eq_true fun helig => ?_⟩
  obtain ⟨-, hun | ⟨hvalid, hage⟩⟩ := elig_iff.mp helig
  · simp [hord] at hun
  · simp [htok i hi j hj hocci hordi hsti hocc hord hvalid hage] at hyounger

/-- An ordered completion is an ordered Request in flight. -/
theorem inFlight_of_ordWb (hinv : Invariant s) (hi : i < s.cfg.n) (h : ordWb (sample s) i = true) :
    OrdInFlight (s.slot i) := by
  obtain ⟨-, -, -, -, hsound, -⟩ := hinv
  obtain ⟨hbusy, -, -⟩ := hsound i hi
  obtain ⟨hst, hord, -⟩ := ordWb_iff.mp h
  have hbegun : (s.slot i).st ≠ .idle := by
    rw [← sample_slot, hst]
    exact nofun
  exact ⟨hbusy hbegun, hord, hbegun⟩

end

/-- Settles O57: two ordered completions would be two ordered Requests in flight. Of two that are in flight after the cycle
one was not before it, so it was eligible; the other was in flight, and then the token names none behind it, or it was
eligible too. -/
theorem orderedExclusivity : Obligations.OrderedExclusivity := by
  intro s t hinv hages hhead htok hstep
  constructor
  · refine marked_eq_of_not_markSet (k := .fault .wbOrdMulti) hstep fun hset => ?_
    obtain ⟨i, j, hij, hj, hwbi, hwbj⟩ := (markSet_wbOrdMulti hstep).mp hset
    have hflighti := inFlight_of_ordWb hinv (hij.trans hj) hwbi
    obtain ⟨hocc, hord, hst⟩ := inFlight_of_ordWb hinv hj hwbj
    exact hst (idle_and_not_elig_of_head hhead htok (hij.trans hj) hj hij.ne hflighti hocc hord).1
  · intro i hi j hj hocci' hordi' hsti' hoccj' hordj' hstj'
    obtain ⟨hocci, hordi, heligi⟩ := held_of_inFlight hinv hstep hi ⟨hocci', hordi', hsti'⟩
    obtain ⟨hoccj, hordj, heligj⟩ := held_of_inFlight hinv hstep hj ⟨hoccj', hordj', hstj'⟩
    by_contra hne
    by_cases hsti : (s.slot i).st = .idle
    · by_cases hstj : (s.slot j).st = .idle
      · exact hne (eq_of_eligible hages hi hj hordi hordj (heligi hsti) (heligj hstj))
      · have hbehind := idle_and_not_elig_of_head hhead htok hj hi (Ne.symm hne) ⟨hoccj, hordj, hstj⟩ hocci hordi
        simp [hbehind] at heligi
    · have hbehind := idle_and_not_elig_of_head hhead htok hi hj hne ⟨hocci, hordi, hsti⟩ hoccj hordj
      simp [hbehind] at heligj

end Sys2Proof.Machine
end

section
/-!
The outputs of cycle 0 (R340; O3): after reset no slot holds a Request and no lane a Candidate, so that nothing is requested,
offered or reported.
-/
namespace Sys2Proof.Machine

/-! ## The arrays of the outputs -/

/-- The arrays of the outputs have one entry per lane or per unordered port after a cycle: a turn of a component beyond the
last one never comes. -/
theorem outputLengths_after_cycle {s m : State} (h : runSites (schedule s.cfg) (sample s) = .next m) :
    m.out.enq.length = s.cfg.w ∧ m.out.allocReject.length = s.cfg.w ∧ m.out.wbUn.length = s.cfg.p := by
  have hlane := laneSame_of_not_mem (w := s.cfg.w) (fun hmem => Nat.lt_irrefl _ (mem_schedule.mp hmem)) h
  have hport := wbUn_kept (j := s.cfg.p) (fun hmem => Nat.lt_irrefl _ (mem_schedule.mp hmem)) h
  refine ⟨hlane.grantsLength.trans ?_, hlane.rejectsLength.trans ?_, hport.1.trans ?_⟩ <;> simp [outputBase]

theorem getD_eq_getD {α : Type} {l : List α} {i : Nat} (h : i < l.length) (d e : α) : l.getD i d = l.getD i e := by
  rw [List.getD_eq_getElem _ _ h, List.getD_eq_getElem _ _ h]

/-! ## An idle cycle -/

/-- A lane without a Candidate is neither granted nor rejected (R197, R215). -/
theorem lane_of_empty_stage {s t : State} {w : Nat} (hstep : step s = .next t) (hw : w < s.cfg.w)
    (hv : (s.stage w).v = false) :
    t.out.enq.getD w (some 0) = none ∧ t.out.allocReject.getD w true = false := by
  obtain ⟨m, hrun, rfl⟩ := step_eq_next.mp hstep
  obtain ⟨henq, hreject, -⟩ := outputLengths_after_cycle hrun
  have hreq : enqReq m w = false := by
    rw [enqReq_after_cycle hw hrun]
    simp [admits, hv]
  obtain ⟨hgrant, hrej⟩ := lane_after_cycle hw hrun
  rw [hreq] at hgrant hrej
  rw [commit_out, getD_eq_getD (henq ▸ hw) _ none, getD_eq_getD (hreject ▸ hw) _ false]
  exact ⟨hgrant, hrej⟩

/-- With every slot empty, nothing is offered on the channel or on a port, and no fault is reported. -/
theorem offers_of_idle_slots {s t : State} (hinv : Invariant s) (hstep : step s = .next t)
    (hidle : ∀ i, i < s.cfg.n → (s.slot i).st = .idle) :
    t.out.beReq = none ∧ t.out.wbOrd = none ∧ (∀ j, j < s.cfg.p → t.out.wbUn[j]? = some none) ∧ t.out.faultOut = none := by
  have hord (i : Nat) (hi : i < s.cfg.n) : ordReq (sample s) i = false := by simp [ordReq, hidle i hi]
  have hun (i : Nat) (hi : i < s.cfg.n) : unReq (sample s) i = false := by simp [unReq, hidle i hi]
  obtain ⟨-, hchannel⟩ := arbiterOffer s t hstep
  obtain ⟨-, hordPort, hunPort⟩ := portsCarryResults s t hinv hstep
  obtain ⟨-, hfault⟩ := faultOutput s t hstep
  refine ⟨((hchannel hord).2 hun).1, hordPort fun i hi => ?_, fun j hj => (hunPort j hj).2 fun i hi => ?_,
    hfault fun i hi hfire => ?_⟩
  · simp [ordWb, wbv, hidle i hi]
  · simp [unWbOn, unWb, wbv, hidle i hi]
  · have hwb := (acceptance s t hinv hstep i hi).2 hfire
    exact absurd (hwb.1.symm.trans (hidle i hi)) nofun

/-- Settles O3: the reset state has the invariant, its slots are idle and its stage registers empty, and every index is in the
pool. -/
theorem firstCycleOutputs : Obligations.FirstCycleOutputs := by
  intro c script env hok
  obtain ⟨hinv, -⟩ := resetHasInvariant.1 c script env hok
  obtain ⟨t, hstep, -⟩ := exists_step hinv
  have hstage (w : Nat) : (State.stage { State.resetOf c with script := script, env := env } w).v = false :=
    congrArg Stage.v (resetOf_stage c w)
  have hidle (i : Nat) : (State.slot { State.resetOf c with script := script, env := env } i).st = .idle :=
    congrArg Slot.st (resetOf_slot c i)
  obtain ⟨-, -, -, -, -, htime, -⟩ := historyAndToken _ t hstep
  obtain ⟨hready, hrollback, hlanes⟩ := fixedOutputs _ t hstep
  obtain ⟨hocc, -, -, hcap⟩ := occupancyOutputs _ t hinv hstep
  obtain ⟨hbe, hord, hun, hfault⟩ := offers_of_idle_slots hinv hstep fun i _ => hidle i
  have hcount : (State.resetOf c).regs.pool.count true = c.n := List.count_replicate_self
  refine ⟨t, hstep, htime, fun w hw => ?_, ?_, ?_, hready, hbe, hord, hun, hfault, congrArg Directive.v hrollback⟩
  · obtain ⟨hprod, hack⟩ := hlanes w hw
    obtain ⟨hgrant, hreject⟩ := lane_of_empty_stage hstep hw (hstage w)
    rw [hstage w, Bool.false_and, if_neg nofun] at hack
    exact ⟨hprod, hgrant, hreject, by rw [List.getD_eq_getElem?_getD, hack, Option.getD_some]⟩
  · rw [hocc]
    exact Nat.sub_eq_zero_of_le hcount.ge
  · obtain ⟨-, -, -, hpos, -⟩ := hinv
    refine Bool.eq_false_of_not_eq_true fun hempty => ?_
    have hn : 0 < c.n := hpos
    exact hn.ne' (hcount.symm.trans (hcap.mp hempty))

end Sys2Proof.Machine
end

section
/-!
No rule reads an unwritten field (R341; O59). Two states of the invariant that agree in every field a rule may read form the
same signals at the start of a cycle, so that what a cycle leaves, as the sections above say it in terms of these signals, is
alike: the outputs, the slots, the other registers and the marks.
-/
namespace Sys2Proof.Machine

/-! ## The same signals at the start of the cycle -/

/-- Two stage registers that hold the same (R341 (c)). -/
abbrev StageAlike (a b : Stage) : Prop := a.v = b.v ∧ (a.v = true → a.c = b.c)

/-- What two states that are alike have in common at the start of a cycle, at every index of their arrays. -/
structure StartsAlike (s s' : State) : Prop where
  cfg : s'.cfg = s.cfg
  inp : s'.inp = s.inp
  pool : s'.regs.pool = s.regs.pool
  pointer : s'.regs.rrLast = s.regs.rrLast
  sound : ∀ i, SlotSound (s.slot i)
  slot : ∀ i, SlotAlike (s.slot i) (s'.slot i)
  stage : ∀ w, StageAlike (s.stage w) (s'.stage w)
  flushD1 : SignalAlike s.regs.flushD1 s'.regs.flushD1
  flushD2 : SignalAlike s.regs.flushD2 s'.regs.flushD2
  tok : SignalAlike s.regs.tokD1 s'.regs.tokD1
  rb : DirectiveAlike s.regs.rb s'.regs.rb

theorem slot_of_le {s : State} {i : Nat} (hshaped : Shaped s) (hi : s.cfg.n ≤ i) : s.slot i = Slot.reset :=
  have ⟨hlen, _, _⟩ := hshaped
  List.getD_eq_default _ _ (hlen ▸ hi)

theorem stage_of_le {s : State} {w : Nat} (hshaped : Shaped s) (hw : s.cfg.w ≤ w) : s.stage w = Stage.reset :=
  have ⟨_, _, hlen⟩ := hshaped
  List.getD_eq_default _ _ (hlen ▸ hw)

/-- The inputs of the coming cycle do not depend on the registers (log 5). -/
theorem nextInput_of_alike {s s' : State} (h : Alike s s') : nextInput s' = nextInput s := by
  obtain ⟨hcfg, ht, hscript, henv, hinp, -⟩ := h
  simp only [nextInput, hcfg, ht, hscript, henv, hinp]

/-- Beyond the arrays' ends every slot and every stage register reads as after reset. -/
theorem startsAlike_of_alike {s s' : State} (hinv : Invariant s) (hinv' : Invariant s') (h : Alike s s') :
    StartsAlike (sample s) (sample s') := by
  have hinput := nextInput_of_alike h
  obtain ⟨-, hshaped, -, -, hsound, -⟩ := hinv
  obtain ⟨-, hshaped', -⟩ := hinv'
  obtain ⟨hcfg, -, -, -, -, hpool, hpointer, -, -, hslots, hstages, hd1, hd2, htok, hrb⟩ := h
  refine ⟨hcfg.symm, hinput, hpool.symm, hpointer.symm, fun i => ?_, fun i => ?_, fun w => ?_, hd1, hd2, htok, hrb⟩
  · rw [sample_slot]
    rcases Nat.lt_or_ge i s.cfg.n with hi | hi
    · exact hsound i hi
    · exact slot_of_le hshaped hi ▸ slotSound_reset
  · rw [sample_slot, sample_slot]
    rcases Nat.lt_or_ge i s.cfg.n with hi | hi
    · exact hslots i hi
    · rw [slot_of_le hshaped hi, slot_of_le hshaped' (hcfg ▸ hi)]
      exact ⟨rfl, rfl, rfl, fun _ => rfl, fun _ => ⟨rfl, rfl⟩⟩
  · rw [sample_stage, sample_stage]
    rcases Nat.lt_or_ge w s.cfg.w with hw | hw
    · exact hstages w hw
    · rw [stage_of_le hshaped hw, stage_of_le hshaped' (hcfg ▸ hw)]
      exact ⟨rfl, fun _ => rfl⟩

/-- A flush check reads the age of a valid signal only (R131). -/
theorem hit_of_signalAlike {f f' : AgeSignal} (h : SignalAlike f f') (c : Config) (a : AgeKey) : hit c a f' = hit c a f := by
  obtain ⟨hvalid, hage⟩ := h
  cases hv : f.valid with
  | false => simp [hit, ← hvalid, hv]
  | true => simp [hit, ← hvalid, hv, hage hv]

/-- The arbiter chooses only a slot in `REQ` (R230). -/
theorem busy_of_arbChoice {s : State} {g : Nat} (h : arbChoice s = some g) : (s.slot g).st ≠ .idle := by
  have hst : (s.slot g).st = .req := by
    rcases arbChoice_eq_some.mp h with ⟨-, hreq, -⟩ | ⟨-, hun⟩
    · exact (ordReq_iff.mp hreq).1
    · exact (unReq_iff.mp (requests_of_roundRobin hun)).1
  simp [hst]

theorem wb_of_ordOffer {s : State} {o : Nat} (h : ordOffer s = some o) : (s.slot o).st = .wb :=
  have ⟨_, hwb, _⟩ := ordOffer_eq_some.mp h
  (ordWb_iff.mp hwb).1

theorem wb_of_unOffer {s : State} {j u : Nat} (h : unOffer s j = some u) : (s.slot u).st = .wb :=
  have ⟨_, hwb, _⟩ := unOffer_eq_some.mp h
  (unWbOn_iff.mp hwb).1

namespace StartsAlike

section
variable {s s' : State} (h : StartsAlike s s')
include h

/-- A slot that is not in `IDLE` holds a Request, which is the same (R36, R341 (a)). -/
theorem req_of_busy {i : Nat} (hst : (s.slot i).st ≠ .idle) : (s'.slot i).req = (s.slot i).req := by
  obtain ⟨hbusy, -, -⟩ := h.sound i
  obtain ⟨-, -, -, hreq, -⟩ := h.slot i
  exact (hreq (hbusy hst)).symm

theorem cancelNow_eq : cancelNow s' = cancelNow s := by
  funext i
  obtain ⟨hocc, -, -, hreq, -⟩ := h.slot i
  rw [cancelNow, cancelNow, h.cfg, h.inp, ← hocc]
  cases ho : (s.slot i).occ with
  | false => rfl
  | true => rw [hreq ho]

theorem elig_eq : elig s' = elig s := by
  funext i
  obtain ⟨hocc, -, -, hreq, -⟩ := h.slot i
  obtain ⟨hvalid, hage⟩ := h.tok
  rw [elig, elig, ← hocc, ← hvalid]
  cases ho : (s.slot i).occ with
  | false => rfl
  | true =>
    rw [hreq ho]
    cases hv : s.regs.tokD1.valid with
    | false => rfl
    | true => rw [hage hv]

/-- The class of a slot's Request counts only in a state other than `IDLE`. -/
theorem decide_st_and_cls (i : Nat) {st : SlotState} (hst : st ≠ .idle) (k : Cls) :
    (decide ((s'.slot i).st = st) && decide ((s'.slot i).req.cls = k)) =
      (decide ((s.slot i).st = st) && decide ((s.slot i).req.cls = k)) := by
  obtain ⟨-, hsame, -⟩ := h.slot i
  rw [← hsame]
  by_cases heq : (s.slot i).st = st
  · rw [h.req_of_busy (heq ▸ hst)]
  · simp [heq]

theorem ordReq_eq : ordReq s' = ordReq s := by
  funext i
  rw [ordReq, ordReq, h.elig_eq, h.cancelNow_eq, h.decide_st_and_cls i (st := .req) nofun]

theorem unReq_eq : unReq s' = unReq s := by
  funext i
  rw [unReq, unReq, h.cancelNow_eq, h.decide_st_and_cls i (st := .req) nofun]

theorem ordWb_eq : ordWb s' = ordWb s := by
  funext i
  rw [ordWb, ordWb, wbv, wbv, h.cancelNow_eq, Bool.and_right_comm, Bool.and_right_comm (decide ((s.slot i).st = _)),
    h.decide_st_and_cls i (st := .wb) nofun]

theorem unWbOn_eq (j : Nat) : unWbOn s' j = unWbOn s j := by
  funext i
  rw [unWbOn, unWbOn, unWb, unWb, wbv, wbv, h.cfg, h.cancelNow_eq, Bool.and_right_comm (decide ((s'.slot i).st = _)),
    Bool.and_right_comm (decide ((s.slot i).st = _)), h.decide_st_and_cls i (st := .wb) nofun]

theorem offers_eq : ordOffer s' = ordOffer s ∧ unOffer s' = unOffer s := by
  refine ⟨?_, funext fun j => ?_⟩
  · rw [ordOffer, ordOffer, h.cfg, h.ordWb_eq]
  · rw [unOffer, unOffer, h.cfg, h.unWbOn_eq]

theorem choices_eq : ordChoice s' = ordChoice s ∧ arbChoice s' = arbChoice s ∧ handedOff s' = handedOff s := by
  simp only [handedOff, arbChoice, ordChoice, unChoice, h.cfg, h.inp, h.pointer, h.ordReq_eq, h.unReq_eq, and_self]

theorem ordMulti_eq : ordMulti s' = ordMulti s := by
  rw [ordMulti, ordMulti, h.cfg, h.ordReq_eq]

theorem flushHit_eq {w : Nat} (hv : (s.stage w).v = true) : flushHit s' w = flushHit s w := by
  obtain ⟨-, hc⟩ := h.stage w
  rw [flushHit, flushHit, h.cfg, h.inp, ← hc hv, hit_of_signalAlike h.flushD1]

theorem admits_eq (w : Nat) : admits s' w = admits s w := by
  obtain ⟨hsame, hc⟩ := h.stage w
  rw [admits, admits, ← hsame]
  cases hv : (s.stage w).v with
  | false => rfl
  | true => rw [hc hv, h.flushHit_eq hv]

theorem robAck_eq (w : Nat) : robAck s' w = robAck s w := by
  obtain ⟨hsame, hc⟩ := h.stage w
  rw [robAck, robAck, ← hsame]
  cases hv : (s.stage w).v with
  | false => rfl
  | true => rw [hc hv]

theorem freeCnt_eq : freeCnt s' = freeCnt s := by
  rw [freeCnt, freeCnt, h.pool]

/-- The Result of a slot in `WB` reads its Request and its captured data (R274, R341 (b)). -/
theorem result_eq {i : Nat} (hst : (s.slot i).st = .wb) :
    resultOf (s'.slot i) = resultOf (s.slot i) ∧ wbRaw s' i = wbRaw s i := by
  obtain ⟨-, -, -, -, hdata⟩ := h.slot i
  obtain ⟨hrdata, hrerr⟩ := hdata hst
  have hreq := h.req_of_busy (i := i) (by simp [hst])
  simp only [resultOf, shapedValue, wbRaw, hreq, ← hrdata, ← hrerr, and_self]

/-- The elected lane's record is read only where the lane holds a Candidate (R293, R294). -/
theorem electedDirective_alike {d d' : Directive} {g : Option Nat} (hg : ∀ e, g = some e → (s.stage e).v = true) :
    DirectiveAlike (electedDirective s d g) (electedDirective s' d' g) := by
  cases g with
  | none => exact ⟨rfl, nofun⟩
  | some e =>
    obtain ⟨-, hc⟩ := h.stage e
    rw [electedDirective, electedDirective, h.cfg, h.inp, ← hc (hg e rfl), hit_of_signalAlike h.flushD1,
      hit_of_signalAlike h.flushD2]
    split
    · exact ⟨rfl, nofun⟩
    · exact ⟨rfl, fun _ => rfl⟩

end

/-- The points of two cycles see what their starts see (R130). -/
theorem of_view {a a' m m' : State} (h : StartsAlike a a') (hview : SameView a m) (hview' : SameView a' m') :
    StartsAlike m m' := by
  obtain ⟨hcfg, -, hregs, hinp, -⟩ := hview
  obtain ⟨hcfg', -, hregs', hinp', -⟩ := hview'
  have hslot (i : Nat) : m.slot i = a.slot i := by rw [State.slot, State.slot, hregs]
  have hslot' (i : Nat) : m'.slot i = a'.slot i := by rw [State.slot, State.slot, hregs']
  have hstage (w : Nat) : m.stage w = a.stage w := by rw [State.stage, State.stage, hregs]
  have hstage' (w : Nat) : m'.stage w = a'.stage w := by rw [State.stage, State.stage, hregs']
  constructor <;> simp only [hcfg, hcfg', hregs, hregs', hinp, hinp', hslot, hslot', hstage, hstage']
  · exact h.cfg
  · exact h.inp
  · exact h.pool
  · exact h.pointer
  · exact h.sound
  · exact h.slot
  · exact h.stage
  · exact h.flushD1
  · exact h.flushD2
  · exact h.tok
  · exact h.rb

end StartsAlike

/-! ## The same outputs -/

theorem eq_of_getD_eq {α : Type} {l l' : List α} {n : Nat} (d : α) (hl : l.length = n) (hl' : l'.length = n)
    (h : ∀ i, i < n → l'.getD i d = l.getD i d) : l' = l := by
  refine List.ext_getElem (hl'.trans hl.symm) fun i hi' hi => ?_
  have heq := h i (hl ▸ hi)
  rwa [List.getD_eq_getElem _ _ hi, List.getD_eq_getElem _ _ hi'] at heq

theorem nextSlot_alike {a b : Slot} {granted : Option Request} {cancel elig fired wbFired : Bool}
    {answer : Option (Beat × Bool)} (h : SlotAlike a b) :
    SlotAlike (nextSlot a granted cancel elig fired wbFired answer) (nextSlot b granted cancel elig fired wbFired answer) := by
  have ⟨hocc, hst, hcpend, hreq, hdata⟩ := h
  cases ho : a.occ with
  | false =>
    have ho' : b.occ = false := hocc.symm.trans ho
    cases granted with
    | none => rwa [nextSlot_empty_none ho, nextSlot_empty_none ho']
    | some r =>
      rw [nextSlot_empty_some ho, nextSlot_empty_some ho']
      exact ⟨rfl, rfl, rfl, fun _ => rfl, nofun⟩
  | true =>
    have ho' : b.occ = true := hocc.symm.trans ho
    cases hs : a.st with
    | idle =>
      rw [nextSlot_idle ho hs, nextSlot_idle ho' (hst.symm.trans hs)]
      split_ifs
      · exact ⟨rfl, hst, hcpend, nofun, hdata⟩
      · exact ⟨hocc, rfl, hcpend, hreq, nofun⟩
      · exact h
    | req =>
      rw [nextSlot_req ho hs, nextSlot_req ho' (hst.symm.trans hs)]
      split_ifs
      · exact ⟨rfl, rfl, hcpend, nofun, nofun⟩
      · exact ⟨hocc, rfl, hcpend, hreq, nofun⟩
      · exact h
    | resp =>
      cases answer with
      | none =>
        rw [nextSlot_resp_none ho hs, nextSlot_resp_none ho' (hst.symm.trans hs), hcpend]
        exact ⟨hocc, hst, rfl, hreq, hdata⟩
      | some d =>
        rw [nextSlot_resp_some ho hs, nextSlot_resp_some ho' (hst.symm.trans hs), hcpend]
        split_ifs
        · exact ⟨rfl, rfl, rfl, nofun, nofun⟩
        · exact ⟨hocc, rfl, rfl, hreq, fun _ => ⟨rfl, rfl⟩⟩
    | wb =>
      rw [nextSlot_wb ho hs, nextSlot_wb ho' (hst.symm.trans hs)]
      split_ifs
      · exact ⟨rfl, rfl, hcpend, nofun, nofun⟩
      · exact h

section
variable {s s' m m' : State} (h : StartsAlike (sample s) (sample s'))
  (hrun : runSites (schedule s.cfg) (sample s) = .next m) (hrun' : runSites (schedule s'.cfg) (sample s') = .next m')
include h hrun hrun'

theorem endsAlike : StartsAlike m m' := h.of_view (runSites_view hrun) (runSites_view hrun')

theorem enqReq_alike {w : Nat} (hw : w < s.cfg.w) : enqReq m' w = enqReq m w := by
  have hcfg : s'.cfg = s.cfg := h.cfg
  rw [enqReq_after_cycle (hcfg ▸ hw) hrun', enqReq_after_cycle hw hrun, h.admits_eq]

/-- The lanes are granted the same indices, and the same lanes are rejected (R190 to R193). -/
theorem allocation_alike : m'.out.enq = m.out.enq ∧ m'.out.allocReject = m.out.allocReject := by
  have hcfg : s'.cfg = s.cfg := h.cfg
  have hend := endsAlike h hrun hrun'
  have hlane (w : Nat) (hw : w < s.cfg.w) :
      enqIdx m' w = enqIdx m w ∧ m'.out.allocReject.getD w false = m.out.allocReject.getD w false := by
    have hreq := enqReq_alike h hrun hrun' hw
    have hoff : allocOff m' w = allocOff m w := countBelow_congr fun u hu => enqReq_alike h hrun hrun' (hu.trans hw)
    have hcan : canAlloc m' w = canAlloc m w := by rw [canAlloc, canAlloc, hoff, hend.freeCnt_eq]
    obtain ⟨hgrant, hreject⟩ := lane_after_cycle hw hrun
    obtain ⟨hgrant', hreject'⟩ := lane_after_cycle (hcfg ▸ hw) hrun'
    rw [hgrant, hgrant', hreject, hreject', hreq, hoff, hcan, hend.inp, hend.pool]
    exact ⟨rfl, rfl⟩
  obtain ⟨henq, hrej, -⟩ := outputLengths_after_cycle hrun
  obtain ⟨henq', hrej', -⟩ := outputLengths_after_cycle hrun'
  rw [hcfg] at henq' hrej'
  exact ⟨eq_of_getD_eq none henq henq' fun w hw => (hlane w hw).1,
    eq_of_getD_eq false hrej hrej' fun w hw => (hlane w hw).2⟩

/-- The same lane is elected for the rollback, and there is a tie in both cycles or in none (R290, R291). -/
theorem election_alike : rbElected m' = rbElected m ∧ rbTie m' = rbTie m := by
  have hcfg : s'.cfg = s.cfg := h.cfg
  have hend := endsAlike h hrun hrun'
  have hview := runSites_view hrun
  have hmcfg : m.cfg = s.cfg := hview.1
  obtain ⟨-, hrej⟩ := allocation_alike h hrun hrun'
  refine election_congr hend.cfg (fun w hw => ?_) fun w hw hcand => ?_
  · rw [hmcfg] at hw
    rw [rbCand_after_cycle (hcfg ▸ hw) hrun', rbCand_after_cycle hw hrun, hrej]
  · rw [hmcfg] at hw
    have hv := valid_of_rbCand hw hrun hcand
    rw [← sameView_stage hview] at hv
    rw [(hend.stage w).2 hv]

/-- The same message is on the channel, the same slots are handed off, and the pointer moves alike (R233, R235, R237). -/
theorem arbiter_alike :
    m'.out.beReq = m.out.beReq ∧ fire m' = fire m ∧ m'.nxt.rrLast = m.nxt.rrLast := by
  obtain ⟨hord, hchoice, hoff⟩ := h.choices_eq
  have hturn := arbiterTurn_after_cycle hrun
  have hturn' := arbiterTurn_after_cycle hrun'
  refine ⟨?_, funext fun i => ?_, ?_⟩
  · rw [hturn.offer, hturn'.offer, hchoice]
    refine Option.map_congr fun g hg => ?_
    rw [beReq, beReq, h.cfg, h.req_of_busy (busy_of_arbChoice hg)]
  · rw [Bool.eq_iff_iff, fire_after_cycle hrun, fire_after_cycle hrun', hoff]
  · have hpointer : s'.regs.rrLast = s.regs.rrLast := h.pointer
    rw [hturn.pointer, hturn'.pointer, hord, hoff, sample_nxt, sample_nxt, hpointer]

/-- The ports carry the same Results, and the same slots are accepted (R260, R261, R263, R275). -/
theorem ports_alike (hports : 0 < s.cfg.p) :
    m'.out.wbOrd = m.out.wbOrd ∧ m'.out.wbOrdRaw = m.out.wbOrdRaw ∧ m'.out.wbUn = m.out.wbUn ∧ wbFire m' = wbFire m := by
  have hcfg : s'.cfg = s.cfg := h.cfg
  have hinp : nextInput s' = nextInput s := h.inp
  obtain ⟨hordOffer, hunOffer⟩ := h.offers_eq
  obtain ⟨hres, hraw⟩ := wbOrd_after_cycle hrun
  obtain ⟨hres', hraw'⟩ := wbOrd_after_cycle hrun'
  refine ⟨?_, ?_, ?_, funext fun i => ?_⟩
  · rw [hres, hres', hordOffer]
    exact Option.map_congr fun o ho => (h.result_eq (wb_of_ordOffer ho)).1
  · rw [hraw, hraw', hordOffer]
    exact Option.map_congr fun o ho => (h.result_eq (wb_of_ordOffer ho)).2
  · obtain ⟨-, -, hlen⟩ := outputLengths_after_cycle hrun
    obtain ⟨-, -, hlen'⟩ := outputLengths_after_cycle hrun'
    rw [hcfg] at hlen'
    refine eq_of_getD_eq none hlen hlen' fun j hj => ?_
    rw [List.getD_eq_getElem?_getD, List.getD_eq_getElem?_getD, wbUn_after_cycle hj hrun, wbUn_after_cycle (hcfg ▸ hj) hrun',
      hunOffer]
    exact congrArg (Option.getD · none) (congrArg some (Option.map_congr fun u hu => (h.result_eq (wb_of_unOffer hu)).1))
  · have hready : unReady (sample s') = unReady (sample s) := by
      funext j
      rw [unReady, unReady, h.inp]
    rw [Bool.eq_iff_iff, wbFire_after_cycle hports hrun, wbFire_after_cycle (hcfg ▸ hports) hrun', hcfg, hinp, hready,
      h.ordWb_eq, h.unWbOn_eq]

/-- The fault output reports the same slot: an accepted slot is in `WB`, so that its error flag is read (R280, R341 (b)). -/
theorem faultOut_alike (hports : 0 < s.cfg.p) : m'.out.faultOut = m.out.faultOut := by
  have hcfg : s'.cfg = s.cfg := h.cfg
  obtain ⟨-, -, -, hfire⟩ := ports_alike h hrun hrun' hports
  have hwb {i : Nat} (hi : wbFire m i = true) : (s.slot i).st = .wb := by
    rcases accepted_of_wbFire hrun hi with ⟨-, ho⟩ | ⟨j, -, hu⟩
    · exact wb_of_ordOffer (s := sample s) ho
    · exact wb_of_unOffer (s := sample s) hu
  have hfaulting : (fun i => wbFire m' i && (s'.slot i).rerr) = fun i => wbFire m i && (s.slot i).rerr := by
    funext i
    rw [hfire]
    cases hi : wbFire m i with
    | false => rfl
    | true =>
      obtain ⟨-, -, -, -, hdata⟩ := h.slot i
      exact (hdata (hwb hi)).2.symm
  have hreport : m.out.faultOut = (leastBelow s.cfg.n fun i => wbFire m i && (s.slot i).rerr).map _ :=
    faultOut_after_cycle hrun
  have hreport' : m'.out.faultOut = (leastBelow s'.cfg.n fun i => wbFire m' i && (s'.slot i).rerr).map _ :=
    faultOut_after_cycle hrun'
  rw [hreport, hreport', hfaulting, hcfg]
  refine Option.map_congr fun f hf => ?_
  obtain ⟨-, hfault, -⟩ := leastBelow_eq_some.mp hf
  obtain ⟨hi, -⟩ := Bool.and_eq_true_iff.mp hfault
  have hreq : (s'.slot f).req = (s.slot f).req := h.req_of_busy (by simp [hwb hi])
  rw [hreq]

/-- The two cycles drive the same outputs, but for the age and the restart of a rollback that is not valid. -/
theorem outputs_alike (hports : 0 < s.cfg.p) :
    { m.out with rollback := m'.out.rollback } = m'.out ∧ DirectiveAlike m.out.rollback m'.out.rollback := by
  have hcfg : s'.cfg = s.cfg := h.cfg
  have hfree : freeCnt s' = freeCnt s := h.freeCnt_eq
  have hack : robAck s' = robAck s := funext h.robAck_eq
  have hshows := showsStart_after_cycle hrun
  have hshows' := showsStart_after_cycle hrun'
  obtain ⟨hocc, hcap⟩ := occupancy_after_cycle hrun
  obtain ⟨hocc', hcap'⟩ := occupancy_after_cycle hrun'
  obtain ⟨henq, hreject⟩ := allocation_alike h hrun hrun'
  obtain ⟨hbe, -, -⟩ := arbiter_alike h hrun hrun'
  obtain ⟨hord, hraw, hun, -⟩ := ports_alike h hrun hrun' hports
  have hfault := faultOut_alike h hrun hrun' hports
  have hprod : m'.out.prodReady = m.out.prodReady := by
    rw [hshows.prodReady, hshows'.prodReady, outputBase, outputBase, hcfg]
  have hrob : m'.out.robAck = m.out.robAck := by
    rw [hshows.robAck, hshows'.robAck, outputBase, outputBase, hcfg, hack]
  refine ⟨?_, ?_⟩
  · have hready : m'.out.respReady = m.out.respReady := hshows'.respReady.trans hshows.respReady.symm
    have hocc : m'.out.occupancy = m.out.occupancy := by rw [hocc, hocc', hcfg, hfree]
    have hcap : m'.out.capEmpty = m.out.capEmpty := by rw [hcap, hcap', hfree]
    simp only [← hprod, ← henq, ← hreject, ← hrob, ← hbe, ← hready, ← hord, ← hraw, ← hun, ← hfault, ← hocc, ← hcap]
  · rw [hshows.rollback, hshows'.rollback]
    exact h.rb

/-! ## The same next values -/

/-- A slot is granted the Request of the same lane, which holds a Candidate (R150, R151). -/
theorem grantedReq_alike (k : Nat) : grantedReq m' k = grantedReq m k := by
  have hend := endsAlike h hrun hrun'
  have hview := runSites_view hrun
  have hcfg : m.cfg = s.cfg := hview.1
  obtain ⟨henq, -⟩ := allocation_alike h hrun hrun'
  have hlane : laneOf m' k = laneOf m k := by simp only [laneOf, enqIdx, henq, hend.cfg]
  rw [grantedReq, grantedReq, hlane]
  refine Option.map_congr fun w hw => ?_
  obtain ⟨hlt, hgrant, -⟩ := laneOf_eq_some.mp hw
  obtain ⟨hreq, -⟩ := grantsDrawn_after_cycle hrun w k (of_decide_eq_true hgrant)
  have hv := valid_of_enqReq (hcfg ▸ hlt) hrun hreq
  rw [← sameView_stage hview] at hv
  rw [(hend.stage w).2 hv]

/-- What a slot becomes of two slots that hold the same, by the same signals, holds the same (R319). -/
theorem slotNext_alike (hports : 0 < s.cfg.p) (k : Nat) : SlotAlike (slotNext m k) (slotNext m' k) := by
  have hend := endsAlike h hrun hrun'
  obtain ⟨-, hfire, -⟩ := arbiter_alike h hrun hrun'
  obtain ⟨-, -, -, hwb⟩ := ports_alike h hrun hrun' hports
  have hanswer : answerTo m' k = answerTo m k := by rw [answerTo, answerTo, hend.inp]
  rw [slotNext, slotNext, grantedReq_alike h hrun hrun', hend.cancelNow_eq, hend.elig_eq, hfire, hwb, hanswer]
  exact nextSlot_alike (hend.slot k)

/-- The rollback register takes the record of the same lane, which holds a Candidate (R290, R294). -/
theorem directive_alike : DirectiveAlike m.nxt.rb m'.nxt.rb := by
  rw [directive_after_cycle hrun, directive_after_cycle hrun', (election_alike h hrun hrun').1]
  refine h.electedDirective_alike fun e he => ?_
  obtain ⟨he, hold, -⟩ := rbElected_eq_some.mp he
  have hcfg : m.cfg = s.cfg := (runSites_view hrun).1
  exact valid_of_rbCand (s := s) (hcfg ▸ he) hrun (rbCand_of_rbOldest hold)

end

/-! ## The same marks -/

/-- A set of fault reasons is given by the reasons it holds. -/
theorem FaultMark.eq_of_has {a b : FaultMark} (h : ∀ r, b.has r = a.has r) : b = a := by
  cases a
  cases b
  exact FaultMark.mk.injEq .. ▸ ⟨h .illegalResubmit, h .staleResponse, h .ordMulti, h .wbOrdMulti, h .ageTie, h .slotInvariant⟩

/-- A set of refusal reasons is given by the reasons it holds. -/
theorem RefusedMark.eq_of_has {a b : RefusedMark} (h : ∀ r, b.has r = a.has r) : b = a := by
  cases a
  cases b
  exact RefusedMark.mk.injEq .. ▸ ⟨h .badClass, h .badSize⟩

/-- The two cycles set the same marks. -/
theorem markSet_alike {s s' t t' : State} (hinv : Invariant s) (hinv' : Invariant s')
    (h : StartsAlike (sample s) (sample s')) (hstep : step s = .next t) (hstep' : step s' = .next t') (k : Mark) :
    MarkSet (schedule s'.cfg) (sample s') k ↔ MarkSet (schedule s.cfg) (sample s) k := by
  have hcfg : s'.cfg = s.cfg := h.cfg
  have hinp : nextInput s' = nextInput s := h.inp
  have hports := p_pos hinv.1
  cases k with
  | fault r =>
    cases r with
    | illegalResubmit => exact iff_of_false (not_markSet_of_slot hinv' rfl) (not_markSet_of_slot hinv rfl)
    | slotInvariant => exact iff_of_false (not_markSet_of_slot hinv' rfl) (not_markSet_of_slot hinv rfl)
    | staleResponse =>
      obtain ⟨-, hst, -⟩ := h.slot (nextInput s).resp.tag
      rw [sample_slot, sample_slot] at hst
      rw [markSet_staleResponse hstep, markSet_staleResponse hstep', hinp, hcfg, hst]
    | ordMulti => rw [markSet_ordMulti hstep, markSet_ordMulti hstep', h.ordMulti_eq]
    | wbOrdMulti => rw [markSet_wbOrdMulti hstep, markSet_wbOrdMulti hstep', hcfg, h.ordWb_eq]
    | ageTie =>
      obtain ⟨m, hrun, -⟩ := step_eq_next.mp hstep
      obtain ⟨m', hrun', -⟩ := step_eq_next.mp hstep'
      rw [markSet_ageTie hrun, markSet_ageTie hrun', (election_alike h hrun hrun').2]
  | refusal r =>
    cases r with
    | badClass =>
      have hsub : (sample s').submission = (sample s).submission := by
        funext w
        rw [State.submission, State.submission, h.inp]
      rw [markSet_badClass hinv hstep, markSet_badClass hinv' hstep', hcfg, hsub]
    | badSize =>
      rw [markSet_badSize hports hstep, markSet_badSize (hcfg ▸ hports) hstep', hcfg, h.ordWb_eq]
      refine exists_congr fun i => and_congr_right fun _ => ?_
      rw [h.unWbOn_eq]
      refine and_congr_left fun hleast => ?_
      have hst : (s.slot i).st = .wb := by
        rcases hleast with ⟨-, hwb, -⟩ | ⟨-, hwb, -⟩
        · exact (ordWb_iff.mp hwb).1
        · exact (unWbOn_iff.mp hwb).1
      have hreq : (s'.slot i).req = (s.slot i).req := h.req_of_busy (by simp [hst])
      rw [hreq]

theorem marks_alike {s s' t t' : State} (hinv : Invariant s) (hinv' : Invariant s') (halike : Alike s s')
    (hstep : step s = .next t) (hstep' : step s' = .next t') : t'.faultMark = t.faultMark ∧ t'.refused = t.refused := by
  have hset := markSet_alike hinv hinv' (startsAlike_of_alike hinv hinv' halike) hstep hstep'
  obtain ⟨-, -, -, -, -, -, -, hfault, hrefused, -⟩ := halike
  have hmarked (k : Mark) : t'.marked k = t.marked k := by
    have hsame : s'.marked k = s.marked k := SameMarks.marked_eq ⟨hfault.symm, hrefused.symm⟩ k
    rw [Bool.eq_iff_iff, step_marked hstep, step_marked hstep', hset, hsame]
  exact ⟨FaultMark.eq_of_has fun r => hmarked (.fault r), RefusedMark.eq_of_has fun r => hmarked (.refusal r)⟩

/-! ## The whole step -/

/-- A submission leaves in a stage register what it submits or nothing, whatever the register held (R211 to R213). -/
theorem intoStage_alike (sub : Submission) (a b : Stage) : StageAlike (sub.intoStage a) (sub.intoStage b) := by
  unfold Submission.intoStage
  split_ifs
  · exact ⟨rfl, nofun⟩
  · exact ⟨rfl, fun _ => rfl⟩
  · exact ⟨rfl, nofun⟩

theorem stages_alike {s s' t t' : State} {w : Nat} (hinv : Invariant s) (hinv' : Invariant s')
    (h : StartsAlike (sample s) (sample s')) (hstep : step s = .next t) (hstep' : step s' = .next t') (hw : w < s.cfg.w) :
    StageAlike (t.stage w) (t'.stage w) := by
  obtain ⟨-, ⟨-, -, hlen⟩, -⟩ := hinv
  obtain ⟨-, ⟨-, -, hlen'⟩, -⟩ := hinv'
  have hcfg : s'.cfg = s.cfg := h.cfg
  have hsub : (sample s').submission w = (sample s).submission w := by rw [State.submission, State.submission, h.inp]
  rw [stage_after_step hlen hw hstep, stage_after_step hlen' (hcfg ▸ hw) hstep', hsub]
  exact intoStage_alike ..

/-- The pool at a boundary is read off the slots (R41). -/
theorem pool_eq_of_slots {t t' : State} (hinv : Invariant t) (hinv' : Invariant t') (hcfg : t'.cfg = t.cfg)
    (hslots : ∀ i, i < t.cfg.n → (t.slot i).occ = (t'.slot i).occ) : t'.regs.pool = t.regs.pool := by
  obtain ⟨-, ⟨-, hlen, -⟩, hpool, -⟩ := hinv
  obtain ⟨-, ⟨-, hlen', -⟩, hpool', -⟩ := hinv'
  rw [hcfg] at hlen'
  refine eq_of_getD_eq false hlen hlen' fun i hi => ?_
  rw [hpool i hi, hpool' i (hcfg ▸ hi), hslots i hi]

/-- States of the invariant that are alike step to states that are alike. -/
theorem step_alike {s s' t t' : State} (hinv : Invariant s) (hinv' : Invariant s') (h : Alike s s')
    (hstep : step s = .next t) (hstep' : step s' = .next t') : Alike t t' := by
  have hstart := startsAlike_of_alike hinv hinv' h
  have hinput := nextInput_of_alike h
  have hports := p_pos hinv.1
  obtain ⟨hfault, hrefused⟩ := marks_alike hinv hinv' h hstep hstep'
  have hinvt := stepKeepsInvariant s t hinv hstep
  have hinvt' := stepKeepsInvariant s' t' hinv' hstep'
  obtain ⟨hd1t, hd2t, htokt, hinpt, hscriptt, htt, hcfgt, -, henvt⟩ := historyAndToken s t hstep
  obtain ⟨hd1t', hd2t', htokt', hinpt', hscriptt', htt', hcfgt', -, henvt'⟩ := historyAndToken s' t' hstep'
  have ⟨hcfg, ht, hscript, henv, _, _, _, _, _, _, _, hd1, _⟩ := h
  have hcfgs : t'.cfg = t.cfg := by rw [hcfgt, hcfgt', hcfg]
  obtain ⟨m, hrun, hcommit⟩ := step_eq_next.mp hstep
  obtain ⟨m', hrun', hcommit'⟩ := step_eq_next.mp hstep'
  have hslots (i : Nat) (hi : i < t.cfg.n) : SlotAlike (t.slot i) (t'.slot i) := by
    rw [hcfgt] at hi
    rw [hcommit, hcommit', (slot_after_cycle hinv hi hrun).1, (slot_after_cycle hinv' (hcfg ▸ hi) hrun').1]
    exact slotNext_alike hstart hrun hrun' hports i
  have hpointer : t'.regs.rrLast = t.regs.rrLast := by
    obtain ⟨-, -, hptr⟩ := arbiter_alike hstart hrun hrun'
    rw [hcommit, hcommit']
    exact hptr
  have hrb : DirectiveAlike t.regs.rb t'.regs.rb := by
    rw [hcommit, hcommit']
    exact directive_alike hstart hrun hrun'
  refine ⟨hcfgs.symm, by rw [htt, htt', ht], by rw [hscriptt, hscriptt', hscript], by rw [henvt, henvt', henv],
    by rw [hinpt, hinpt', hinput], (pool_eq_of_slots hinvt hinvt' hcfgs fun i hi => (hslots i hi).1).symm,
    hpointer.symm, hfault.symm, hrefused.symm, hslots, ?_, ?_, ?_, ?_, hrb⟩
  · rw [hcfgt]
    exact fun w => stages_alike hinv hinv' hstart hstep hstep'
  · rw [hd1t, hd1t', hinput]
    exact ⟨rfl, fun _ => rfl⟩
  · rwa [hd2t, hd2t']
  · rw [htokt, htokt', hinput]
    exact ⟨rfl, fun _ => rfl⟩

/-- Settles O59: the second state steps too, as every state of the invariant does; the two cycles form the same signals, so
they leave alike registers and the same outputs. -/
theorem unwrittenFieldsDoNotMatter : Obligations.UnwrittenFieldsDoNotMatter := by
  intro s s' t hinv hinv' h hstep
  obtain ⟨t', hstep', -⟩ := exists_step hinv'
  obtain ⟨m, hrun, hcommit⟩ := step_eq_next.mp hstep
  obtain ⟨m', hrun', hcommit'⟩ := step_eq_next.mp hstep'
  obtain ⟨hout, hrollback⟩ := outputs_alike (startsAlike_of_alike hinv hinv' h) hrun hrun' (p_pos hinv.1)
  refine ⟨t', hstep', step_alike hinv hinv' h hstep hstep', ?_⟩
  rw [hcommit, hcommit']
  exact ⟨hout, hrollback⟩

end Sys2Proof.Machine
end
